-- ==== Sys2Proof/Word.lean ====
section
/-! DEFINITION. The two word types of the block (spec/00_scope.md R12): every field and operand is unsigned. -/

namespace Sys2Proof

/-- A `u8` of R12: one frame's byte. -/
abbrev Byte := BitVec 8

/-- A `u32` of R12: a host register or a command word. -/
abbrev Word := BitVec 32

end Sys2Proof
end

