-- ==== Sys2Proof/Syntax.lean ====
section
/-! DEFINITION. The commands of the SPIM command set v1: one constructor per row of spec/opcode_table.json. -/

namespace Sys2Proof

/-- A command with its operands (spec/30_encoding.md R82 to R91). Each operand has exactly its field's width, so every
term is a command that the encoding admits. -/
inductive Instr where
  /-- INIT (R82, R100): the "use hardware chip-select?" and "use receive line?" flags. -/
  | init (hwcs rxen : Bool)
  /-- SETBAUD (R83, R102): its operands are ARG0 and ARG1. -/
  | setbaud
  /-- SETMODE (R84, R106). -/
  | setmode (cpol cpha : Bool)
  /-- WRBYTE (R85, R125). -/
  | wrbyte (data : Byte)
  /-- RDBYTE (R86, R126). -/
  | rdbyte
  /-- CSASSERT (R87, R141). -/
  | csassert
  /-- CSDEASSERT (R87, R142). -/
  | csdeassert
  /-- TRANSACT.W (R88, R161). -/
  | transactW (opc reg data : Byte)
  /-- TRANSACT.R (R88, R162). -/
  | transactR (opc reg : Byte)
  /-- BURST with N = 1 (R89, R145). -/
  | burst1 (b0 : Byte)
  /-- BURST with N = 2 (R89, R145). -/
  | burst2 (b0 b1 : Byte)
  /-- BURST with N = 3 (R89, R145). -/
  | burst3 (b0 b1 b2 : Byte)
  /-- DELAY (R90, R152): a wait in microseconds. -/
  | delay (us : BitVec 24)
deriving DecidableEq, Repr

end Sys2Proof
end

