-- ==== Sys2Proof/WellFormed.lean ====
section
/-! DEFINITION. Which assembler lines are commands (spec/30_encoding.md R96). An `Instr` is well formed by its type; a
line as a host program writes it has operands of any size, and "an operand outside its range is an assembly error, not an
encoding". -/

namespace Sys2Proof

/-- A command line of R96 with its operands as written: any natural numbers. -/
inductive AsmLine where
  | init (hwcs rxen : Nat)
  | setbaud
  | setmode (cpol cpha : Nat)
  | wrbyte (data : Nat)
  | rdbyte
  | csassert
  | csdeassert
  | transactW (opc reg data : Nat)
  | transactR (opc reg : Nat)
  | burst (bytes : List Nat)
  | delay (us : Nat)
deriving DecidableEq, Repr

/-- An operand written `<0|1>` is in range. -/
def isFlag (n : Nat) : Bool := decide (n < 2)

/-- An operand written `<u8>` is in range. -/
def isU8 (n : Nat) : Bool := decide (n < 256)

/-- DELAY's operand is in range: 0 to 16777215. -/
def isDelay (n : Nat) : Bool := decide (n < 16777216)

/-- BURST has one, two or three operands: the operand count is `N`. -/
def isBurstCount (n : Nat) : Bool := decide (1 ≤ n ∧ n ≤ 3)

/-- Every operand of the line is in the range R96 gives it. -/
def AsmLine.wellFormed : AsmLine → Bool
  | .init hwcs rxen => isFlag hwcs && isFlag rxen
  | .setbaud => true
  | .setmode cpol cpha => isFlag cpol && isFlag cpha
  | .wrbyte data => isU8 data
  | .rdbyte => true
  | .csassert => true
  | .csdeassert => true
  | .transactW opc reg data => isU8 opc && isU8 reg && isU8 data
  | .transactR opc reg => isU8 opc && isU8 reg
  | .burst bytes => isBurstCount bytes.length && bytes.all isU8
  | .delay us => isDelay us

end Sys2Proof
end

