-- ==== Sys2Proof/Decode.lean ====
section
/-! DEFINITION. The command encoding (spec/30_encoding.md R80 to R95, spec/opcode_table.json): the decoder, total on every
32-bit word, the encoder beside it, and the assembler of R96. -/

namespace Sys2Proof

/-- `w[lo + 7 : lo]` as a `u8` (R12, R91). -/
def byteAt (w : Word) (lo : Nat) : Byte := w.extractLsb' lo 8

/-- `w[i]` as a flag (R12, R91). -/
def flagAt (w : Word) (i : Nat) : Bool := w.getLsbD i

/-- A byte placed at bits `lo + 7 : lo` of an otherwise zero word. -/
def placeByte (b : Byte) (lo : Nat) : Word := b.zeroExtend 32 <<< lo

/-- A flag placed at bit `i` of an otherwise zero word. -/
def placeFlag (b : Bool) (i : Nat) : Word := if b then 1#32 <<< i else 0#32

/-- A row of the opcode table (R92): a word is this row's when `(w & mask) = pattern`, and `command` reads its fields
(R91). -/
structure OpcodeRow where
  mnemonic : String
  pattern : Word
  mask : Word
  command : Word → Instr

/-- Whether a word is the row's. -/
def OpcodeRow.hits (r : OpcodeRow) (w : Word) : Bool := w &&& r.mask == r.pattern

/-- The opcode table (R82 to R90), in the order of spec/opcode_table.json. -/
def opcodeTable : List OpcodeRow :=
  [ ⟨"INIT",       0x10000000#32, 0xFFFFFFFC#32, fun w => .init (flagAt w 0) (flagAt w 1)⟩,
    ⟨"SETBAUD",    0x20000000#32, 0xFFFFFFFF#32, fun _ => .setbaud⟩,
    ⟨"SETMODE",    0x30000000#32, 0xFFFFFFFC#32, fun w => .setmode (flagAt w 1) (flagAt w 0)⟩,
    ⟨"WRBYTE",     0x40000000#32, 0xFFFFFF00#32, fun w => .wrbyte (byteAt w 0)⟩,
    ⟨"RDBYTE",     0x50000000#32, 0xFFFFFFFF#32, fun _ => .rdbyte⟩,
    ⟨"CSASSERT",   0x60000000#32, 0xFFFFFFFF#32, fun _ => .csassert⟩,
    ⟨"CSDEASSERT", 0x70000000#32, 0xFFFFFFFF#32, fun _ => .csdeassert⟩,
    ⟨"TRANSACT.W", 0x81000000#32, 0xFF000000#32, fun w => .transactW (byteAt w 16) (byteAt w 8) (byteAt w 0)⟩,
    ⟨"TRANSACT.R", 0x80000000#32, 0xFF0000FF#32, fun w => .transactR (byteAt w 16) (byteAt w 8)⟩,
    ⟨"BURST1",     0x94000000#32, 0xFF00FFFF#32, fun w => .burst1 (byteAt w 16)⟩,
    ⟨"BURST2",     0x98000000#32, 0xFF0000FF#32, fun w => .burst2 (byteAt w 16) (byteAt w 8)⟩,
    ⟨"BURST3",     0x9C000000#32, 0xFF000000#32, fun w => .burst3 (byteAt w 16) (byteAt w 8) (byteAt w 0)⟩,
    ⟨"DELAY",      0xA0000000#32, 0xFF000000#32, fun w => .delay (w.extractLsb' 0 24)⟩ ]

/-- Why a word selects no command (R93). Every reason is the one fault ILLEGAL (R182). -/
inductive IllegalWord where
  /-- `OP` is 0x0 or 0xB to 0xF. -/
  | unassignedOp
  /-- A BURST word with `N` = 0. -/
  | burstCountZero
  /-- A bit outside the command's fields is set: a reserved bit, DATA of a TRANSACT.R word, or a BURST byte beyond its
  count. -/
  | reservedBits
deriving DecidableEq, Repr

/-- What decoding a word gives (R92): a command with its fields, or `Illegal`. -/
inductive Decoded where
  | command (i : Instr)
  | illegal (why : IllegalWord)
deriving DecidableEq, Repr

/-- The reason a word that matches no row is rejected under (R93). -/
def illegalReason (w : Word) : IllegalWord :=
  let op := (w.extractLsb' 28 4).toNat
  if op = 0 ∨ 11 ≤ op then .unassignedOp
  else if op = 9 ∧ w.extractLsb' 26 2 = 0#2 then .burstCountZero
  else .reservedBits

/-- `Decode(w)` (R92): the command of the row of `opcodeTable` the word matches, or `Illegal` when it matches none. -/
def decode (w : Word) : Decoded :=
  match opcodeTable.find? (·.hits w) with
  | some row => .command (row.command w)
  | none => .illegal (illegalReason w)

/-- The word of a command (R82 to R90): its row's pattern with its fields in their places. -/
def encode : Instr → Word
  | .init hwcs rxen => 0x10000000#32 ||| placeFlag rxen 1 ||| placeFlag hwcs 0
  | .setbaud => 0x20000000#32
  | .setmode cpol cpha => 0x30000000#32 ||| placeFlag cpol 1 ||| placeFlag cpha 0
  | .wrbyte data => 0x40000000#32 ||| placeByte data 0
  | .rdbyte => 0x50000000#32
  | .csassert => 0x60000000#32
  | .csdeassert => 0x70000000#32
  | .transactW opc reg data => 0x81000000#32 ||| placeByte opc 16 ||| placeByte reg 8 ||| placeByte data 0
  | .transactR opc reg => 0x80000000#32 ||| placeByte opc 16 ||| placeByte reg 8
  | .burst1 b0 => 0x94000000#32 ||| placeByte b0 16
  | .burst2 b0 b1 => 0x98000000#32 ||| placeByte b0 16 ||| placeByte b1 8
  | .burst3 b0 b1 b2 => 0x9C000000#32 ||| placeByte b0 16 ||| placeByte b1 8 ||| placeByte b2 0
  | .delay us => 0xA0000000#32 ||| us.zeroExtend 32

/-- The row's mnemonic of a command, as spec/opcode_table.json spells it. -/
def Instr.mnemonic : Instr → String
  | .init _ _ => "INIT"
  | .setbaud => "SETBAUD"
  | .setmode _ _ => "SETMODE"
  | .wrbyte _ => "WRBYTE"
  | .rdbyte => "RDBYTE"
  | .csassert => "CSASSERT"
  | .csdeassert => "CSDEASSERT"
  | .transactW _ _ _ => "TRANSACT.W"
  | .transactR _ _ => "TRANSACT.R"
  | .burst1 _ => "BURST1"
  | .burst2 _ _ => "BURST2"
  | .burst3 _ _ _ => "BURST3"
  | .delay _ => "DELAY"

/-- The command a well-formed assembler line stands for (R96); an ill-formed line is an assembly error. -/
def AsmLine.assemble (l : AsmLine) : Option Instr :=
  if l.wellFormed then
    match l with
    | .init hwcs rxen => some (.init (decide (hwcs = 1)) (decide (rxen = 1)))
    | .setbaud => some .setbaud
    | .setmode cpol cpha => some (.setmode (decide (cpol = 1)) (decide (cpha = 1)))
    | .wrbyte data => some (.wrbyte (BitVec.ofNat 8 data))
    | .rdbyte => some .rdbyte
    | .csassert => some .csassert
    | .csdeassert => some .csdeassert
    | .transactW opc reg data =>
        some (.transactW (BitVec.ofNat 8 opc) (BitVec.ofNat 8 reg) (BitVec.ofNat 8 data))
    | .transactR opc reg => some (.transactR (BitVec.ofNat 8 opc) (BitVec.ofNat 8 reg))
    | .burst [b0] => some (.burst1 (BitVec.ofNat 8 b0))
    | .burst [b0, b1] => some (.burst2 (BitVec.ofNat 8 b0) (BitVec.ofNat 8 b1))
    | .burst [b0, b1, b2] => some (.burst3 (BitVec.ofNat 8 b0) (BitVec.ofNat 8 b1) (BitVec.ofNat 8 b2))
    | .burst _ => none
    | .delay us => some (.delay (BitVec.ofNat 24 us))
  else none

/-- The command the decoder reads from an instruction whose bits are `w`, numbered as spec/opcode_table.json numbers them:
one 32-bit word (R95), the bits above `nbits` zero. -/
def decodeTableWord (nbits w : Nat) : Option Instr :=
  if nbits ≤ 32 then
    match decode (BitVec.ofNat 32 (w % 2 ^ nbits)) with
    | .command i => some i
    | .illegal _ => none
  else none

end Sys2Proof
end

