-- ==== Sys2Proof/Machine/Wire.lean ====
section
/-! DEFINITION. What the block shows on its wires: the events of the trace (spec/10_state.md R44) and the
levels of its pins (R51 to R53). -/

namespace Sys2Proof

/-- Which wait a `Wait` event records (R44). -/
inductive WaitKind where
  /-- The chip-select setup wait, in input-clock cycles. -/
  | css
  /-- The register-access settle wait, in microseconds. -/
  | settle
  /-- A DELAY command's wait, in microseconds. -/
  | host
deriving DecidableEq, Repr

/-- A wire event (R44). -/
inductive WireEvent where
  /-- The select line goes from high to low. -/
  | csFall
  /-- The select line goes from low to high. -/
  | csRise
  /-- One 8-bit frame: the byte sent, the byte captured, the mode and the divisor in force. -/
  | frame (mosi miso : Byte) (cpol cpha : Bool) (div : Word)
  /-- A wait with its nominal length. -/
  | wait (kind : WaitKind) (n : Nat)
deriving DecidableEq, Repr

/-- The level of an output pin (R51 to R53). -/
inductive Level where
  /-- Driven low. -/
  | low
  /-- Driven high. -/
  | high
  /-- Not driven, and no pull-up: high impedance. -/
  | hiZ
  /-- Not driven by the block and pulled high by its pad's pull-up (R52 with SCKPU = 1, log 20). -/
  | pulledHigh
deriving DecidableEq, Repr, Inhabited

/-- The driven level of a bit: 1 is high, 0 is low. -/
abbrev Level.ofBit (b : Bool) : Level := if b then .high else .low

end Sys2Proof
end

