-- ==== Sys2Proof/Config.lean ====
section
/-! DEFINITION. What the spec leaves open: the implementation parameters of spec/00_scope.md R11 and the free
values of spec/93_implementation_defined.md U11 to U14. Every constant here is opaque: no proof can see its value. -/

namespace Sys2Proof

/-- The open parameters of R11. Each field counts up from its parameter's least legal value, so that every value of
this type is legal: read the parameters through `Params.base`, `Params.divWidth` and the rest, never the fields
(DESIGN CHOICE, log 3). -/
structure Params where
  /-- `BASE` divided by 32. -/
  baseIndex : Nat
  /-- `DIV_WIDTH` less 8: 0 to 24. -/
  divWidthOver8 : Fin 25
  /-- `F_CLK` less 1. -/
  fClkOver1 : Nat
  /-- `CLK_PER_US` less 1. -/
  clkPerUsOver1 : Nat
  /-- `T_CSS_CYC` less 1. -/
  tCssCycOver1 : Nat
  /-- `T_SETTLE_US` less 1. -/
  tSettleUsOver1 : Nat
  /-- `T_CFG_US`, which fits one DELAY (92_eei_decisions.md, parameter table). -/
  tCfgUs : BitVec 24
  /-- Whether the model is given a `SlaveByte` function (R11, R15); by default it is not. The function itself is
  `Config.slaveByte`. -/
  slaveGiven : Bool
deriving DecidableEq, Repr, Inhabited

/-- `BASE`: a multiple of 32 (R11, R60). -/
abbrev Params.base (p : Params) : Nat := 32 * p.baseIndex

/-- `DIV_WIDTH`: 8 to 32 (R11). -/
abbrev Params.divWidth (p : Params) : Nat := 8 + p.divWidthOver8.val

/-- `DIV_MAX` = 2^DIV_WIDTH − 1 (R11, R104). -/
abbrev Params.divMax (p : Params) : Nat := 2 ^ p.divWidth - 1

/-- `F_CLK` in Hz, above 0 (R11). -/
abbrev Params.fClk (p : Params) : Nat := p.fClkOver1 + 1

/-- `CLK_PER_US`, at least 1 (R11). -/
abbrev Params.clkPerUs (p : Params) : Nat := p.clkPerUsOver1 + 1

/-- `T_CSS_CYC`, at least 1 input-clock cycle (R11). -/
abbrev Params.tCssCyc (p : Params) : Nat := p.tCssCycOver1 + 1

/-- `T_SETTLE_US`, at least 1 microsecond (R11). -/
abbrev Params.tSettleUs (p : Params) : Nat := p.tSettleUsOver1 + 1

/-- The parameters of the block that `State.reset` is a state of (DESIGN CHOICE, log 3): any legal ones. -/
opaque Config.params : Params

/-- `SlaveByte` (R11, R15, R129): the optional slave model, the byte driven on MISO for a frame as a function of the
trace so far and the MOSI byte. It is in force where `Params.slaveGiven` says so (log 6). -/
opaque Config.slaveByte : List WireEvent → Byte → Byte

/-- `draw_u8()` (R15, R129): the byte of the n-th draw, a free value (log 6). -/
opaque Config.freeByte : Nat → Byte

/-- `choose{RXBUF, rx}` (R128): whether the n-th draw keeps the older byte, a free value (log 7). -/
opaque Config.freeKeepsOld : Nat → Bool

/-- The level of `mosi_o` outside frames (R53, U14): any value, a free value (log 13). -/
opaque Config.freeMosi : Nat → Level

end Sys2Proof
end

