-- ==== Sys2Proof/Machine/State.lean ====
section
/-! DEFINITION. The state of the block (spec/10_state.md R20 to R56) with its input pins, its environment and the host
steps still to come; what a step can stop with; and the state right after reset. -/

namespace Sys2Proof.Machine

/-- STATUS (R28): each bit and the fault code. The reserved bits 7:5 and 31:12 read 0 and are no state. -/
structure Status where
  /-- Bit 0: a frame is being shifted (R29). -/
  busy : Bool
  /-- Bit 1: RXBUF holds a byte not yet drained (R30). -/
  rxfull : Bool
  /-- Bit 2: a receive overflow happened; sticky (R31). -/
  rovr : Bool
  /-- Bit 3: a software chip-select transaction is open (R32). -/
  csa : Bool
  /-- Bit 4: the block has faulted; sticky until reset (R33). -/
  fault : Bool
  /-- Bits 11:8: the code of the first fault (R34). -/
  fcode : BitVec 4
deriving DecidableEq, Repr

/-- CONFIG (R35). The reserved bits 31:7 read 0 and are no state. -/
structure ConfigReg where
  /-- Bit 0: initialized (R36). -/
  cfg : Bool
  /-- Bit 1: peripheral enabled (R37). -/
  en : Bool
  /-- Bit 2: the select pin is wired to the internal select logic (R38). -/
  hwcs : Bool
  /-- Bit 3: the receive line is a digital input (R39). -/
  rxen : Bool
  /-- Bit 4: clock phase (R40). -/
  cpha : Bool
  /-- Bit 5: clock polarity (R40). -/
  cpol : Bool
  /-- Bit 6: pull-up on the clock line (R41). -/
  sckpu : Bool
deriving DecidableEq, Repr

/-- One SCK edge of a frame (spec/41_spi_transfer.md R121, R122). -/
structure SckEdge where
  /-- The level of SCK after the edge. -/
  level : Bool
  /-- The bit both sides sample at this edge, MOSI then MISO, where the edge samples. `none` for MOSI: nothing was
  driven on it. -/
  sampled : Option (Option Bool × Bool)
  /-- The bit MOSI changes to at this edge, where it changes. -/
  driven : Option Bool
deriving DecidableEq, Repr

/-- What the transceiver holds while it shifts a frame (R132). -/
structure Shifting where
  /-- The byte being sent. -/
  tx : Byte
  /-- The byte the environment drives on MISO during this frame (R129). -/
  miso : Byte
  /-- The received byte as far as it is assembled (R123). -/
  rx : Byte
  /-- The level of SCK. -/
  sck : Bool
  /-- The level of MOSI; `none`: not driven yet in this frame. -/
  mosi : Option Bool
  /-- The edges made so far, first one first. -/
  edges : List SckEdge
deriving DecidableEq, Repr

/-- The half of an SCK period: which edge a `TX_BIT` state makes (R132). -/
inductive Phase where
  | lead
  | trail
deriving DecidableEq, Repr

/-- The operands of a TRANSACT in progress (R160). -/
structure RegAccess where
  /-- W: 1 for the write form. -/
  write : Bool
  opc : Byte
  reg : Byte
  /-- The third byte sent: DATA on a write, the dummy 0x00 on a read. -/
  third : Byte
deriving DecidableEq, Repr

/-- The state of the sequencer a frame belongs to and returns to (R132 "caller's state"). -/
inductive Caller where
  /-- WRBYTE: the frame is the whole command. -/
  | command
  /-- `BU_SHIFT(j)`, with the bytes still to send after `B_j` (R146). -/
  | buShift (j : Nat) (rest : List Byte)
  /-- `RA_OPC` (R163). -/
  | raOpc (a : RegAccess)
  /-- `RA_REG` (R163). -/
  | raReg (a : RegAccess)
  /-- `RA_DAT` (R163). -/
  | raDat (a : RegAccess)
deriving DecidableEq, Repr

/-- `fsm` (R47): the states of R132, R146 and R163, each named for the action it is about to perform and carrying what
the command in progress still needs (log 11). -/
inductive Fsm where
  /-- `IDLE`: between commands. -/
  | idle
  /-- `TX_LOAD`. -/
  | txLoad (tx : Byte) (caller : Caller)
  /-- `TX_BIT(k, lead)` or `TX_BIT(k, trail)`. -/
  | txBit (k : Nat) (phase : Phase) (sh : Shifting) (caller : Caller)
  /-- `TX_DONE`. -/
  | txDone (sh : Shifting) (caller : Caller)
  /-- `BU_SEL_ON`. -/
  | buSelOn (bytes : List Byte)
  /-- `BU_SETUP`. -/
  | buSetup (bytes : List Byte)
  /-- `BU_DRAIN(j)`. -/
  | buDrain (j : Nat) (rest : List Byte)
  /-- `BU_SEL_OFF`. -/
  | buSelOff
  /-- `RA_PRE`. -/
  | raPre (a : RegAccess)
  /-- `RA_SEL_ON`. -/
  | raSelOn (a : RegAccess)
  /-- `RA_SETUP`. -/
  | raSetup (a : RegAccess)
  /-- `RA_SEL_OFF`. -/
  | raSelOff
  /-- `RA_POST`. -/
  | raPost
deriving DecidableEq, Repr

/-- The platform's clock gate `blk_clk_en` and its settle time (R77, R214). -/
inductive ClkGate where
  /-- `blk_clk_en` = 0. -/
  | closed
  /-- `blk_clk_en` = 1, the platform's settle time not yet passed. -/
  | settling
  /-- `blk_clk_en` = 1 and settled. -/
  | settled
deriving DecidableEq, Repr

/-- Which byte an overflow leaves in RXBUF (R128). -/
inductive Survivor where
  | older
  | newer
deriving DecidableEq, Repr

/-- The environment (R15, R19): how draws are resolved. The model's own data, not the spec's state (logs 6, 7). -/
structure Env where
  /-- How many draws were made: the argument of the free values of Config. -/
  draws : Nat
  /-- How the draws of the coming frames' MISO bytes are resolved, as far as it is decided, next one first; a draw beyond
  them is a free value. They say nothing where a `SlaveByte` function is given (R15). -/
  slave : List Byte
  /-- The survivors of the coming overflows as far as they are decided, next one first; an overflow beyond them is a free
  value. -/
  survivors : List Survivor
deriving DecidableEq, Repr

/-- A step of the host or of the platform (spec/70_reset_and_hazards.md R234). An access names its address as R61 does,
by its distance from `BASE` (log 17). -/
inductive HostStep where
  /-- `MemRead(BASE + off, width)`. -/
  | read (off : Int) (width : Nat)
  /-- `MemWrite(BASE + off, width, v)`. -/
  | write (off : Int) (width : Nat) (v : Word)
  /-- `rst_n` goes low. -/
  | rstLow
  /-- `rst_n` goes high. -/
  | rstHigh
  /-- `blk_clk_en` goes to 0. -/
  | gateClose
  /-- `blk_clk_en` goes to 1. -/
  | gateOpen
  /-- The platform's settle time after opening the gate has passed. -/
  | gateSettled
deriving DecidableEq, Repr

/-- What the host gets back for a completed access (R234). -/
inductive Reply where
  /-- A read's value. -/
  | data (v : Word)
  /-- A write's completion. -/
  | done
deriving DecidableEq, Repr

/-- The eight registers of the host window (R24). -/
inductive Reg where
  | cmd
  | arg0
  | arg1
  | result
  | status
  | config
  | div
  | fcmd
deriving DecidableEq, Repr

/-- The block, its pins, its environment and its host. -/
structure State where
  /-- The open parameters (R11), the same in every state of a run (log 3). -/
  params : Params
  /-- ARG0 (R25). -/
  arg0 : Word
  /-- ARG1 (R26). -/
  arg1 : Word
  /-- RESULT bits 7:0 (R27). -/
  result : Byte
  /-- STATUS (R28). -/
  status : Status
  /-- CONFIG (R35). -/
  config : ConfigReg
  /-- DIV (R42). -/
  div : Word
  /-- FCMD (R43). -/
  fcmd : Word
  /-- The trace (R44), first event first. -/
  trace : List WireEvent
  /-- RXBUF (R45). -/
  rxbuf : Byte
  /-- TXSR (R46). -/
  txsr : Byte
  /-- `fsm` (R47). -/
  fsm : Fsm
  /-- The input `rst_n`, true for high (R50, R210). -/
  rstN : Bool
  /-- The input `blk_clk_en` with its settle time (R50, R77). -/
  blkClk : ClkGate
  /-- The environment (R19). -/
  env : Env
  /-- The host steps still to come, next one first (R71, log 1). -/
  host : List HostStep
  /-- What the host got back, first reply first (R234, log 2). -/
  replies : List Reply
deriving DecidableEq, Repr

/-- A stuck machine. A fault of the BLOCK is no value of this type: it is a next state with STATUS.FAULT set (R181). -/
inductive Fault where
  /-- Raised by `tick` when `rst_n` or `blk_clk_en` moves while a command is in progress: R211 and R234 give that no move
  (U25). Unsafe for hardware that does it: no claim speaks of such a run. -/
  | pinChangeMidCommand
deriving DecidableEq, Repr

/-- Host steps the block gives no meaning (spec/20_memory.md R63, R77; spec/70_reset_and_hazards.md R210). All safe: the
model stops where a platform may go on. -/
inductive Refusal where
  /-- An instruction with no meaning yet. Raised by no arm of `exec`. Safe. -/
  | notModelled (mnemonic : String)
  /-- An access whose width is not 4 (R63). Raised by `regAt`. Safe. -/
  | badWidth
  /-- An access whose address is not 4-byte aligned (R63). Raised by `regAt`. Safe. -/
  | misaligned
  /-- An access outside the window (R63). Raised by `regAt`. Safe. -/
  | outsideWindow
  /-- A read of CMD (R63). Raised by `hostRead`. Safe. -/
  | readOfCmd
  /-- A write of RESULT, STATUS, CONFIG, DIV or FCMD (R63). Raised by `hostWrite`. Safe. -/
  | writeOfReadOnly
  /-- An access while the clock gate is closed or not settled (R77). Raised by `accessGate`. Safe. -/
  | clockGated
  /-- An access while `rst_n` is low (R210). Raised by `accessGate`. Safe. -/
  | heldInReset
deriving DecidableEq, Repr

/-- STATUS after reset (R56). -/
def Status.reset : Status :=
  { busy := false, rxfull := false, rovr := false, csa := false, fault := false, fcode := 0#4 }

/-- CONFIG after reset (R56). -/
def ConfigReg.reset : ConfigReg :=
  { cfg := false, en := false, hwcs := false, rxen := false, cpha := false, cpol := false, sckpu := false }

/-- The machine right after reset (R56, R210): every register and field 0, the trace empty, `fsm` IDLE. The parameters
are any legal ones (log 3), `rst_n` is just released (log 5), the clock gate is open and settled, as R214 has a model
take it (log 4), and nothing is decided or placed in the environment and the host (logs 1, 2, 6, 7). -/
def State.reset : State :=
  { params := Config.params
    arg0 := 0#32
    arg1 := 0#32
    result := 0#8
    status := Status.reset
    config := ConfigReg.reset
    div := 0#32
    fcmd := 0#32
    trace := []
    rxbuf := 0#8
    txsr := 0#8
    fsm := .idle
    rstN := true
    blkClk := .settled
    env := { draws := 0, slave := [], survivors := [] }
    host := []
    replies := [] }

end Sys2Proof.Machine
end

