-- ==== Sys2Proof/Machine/Operands.lean ====
section
/-! DEFINITION. Operand forms and register widths: the widening of R13, SETBAUD's divisor (spec/40_spi_config.md R102), the
bit helpers of the shift register (spec/41_spi_transfer.md R123), and the addresses of the host window
(spec/10_state.md R24). The commands have no register operands and no addressing modes (R91). -/

namespace Sys2Proof.Machine

/-- `zext_32` of a byte (R13). -/
def zext32 (b : Byte) : Word := b.zeroExtend 32

/-- SETBAUD's divisor `((2 * f) / b + 1) >> 1` in unbounded natural arithmetic (R102, R13). -/
def divisor (f b : Word) : Nat := ((2 * f.toNat) / b.toNat + 1) >>> 1

/-- `v` with bit `k` set to `b`. -/
def setBit (v : Byte) (k : Nat) (b : Bool) : Byte :=
  if b then v ||| (1#8 <<< k) else v &&& ~~~(1#8 <<< k)

/-- The register at an offset of the window (R24). -/
def regOfOffset (off : Int) : Option Reg :=
  if off = 0x00 then some .cmd
  else if off = 0x04 then some .arg0
  else if off = 0x08 then some .arg1
  else if off = 0x0C then some .result
  else if off = 0x10 then some .status
  else if off = 0x14 then some .config
  else if off = 0x18 then some .div
  else if off = 0x1C then some .fcmd
  else none

/-- The offset of a register in the window (R24). -/
def offsetOf : Reg → Int
  | .cmd => 0x00
  | .arg0 => 0x04
  | .arg1 => 0x08
  | .result => 0x0C
  | .status => 0x10
  | .config => 0x14
  | .div => 0x18
  | .fcmd => 0x1C

/-- The distance from `BASE` of a host address (R60, R61, log 17). -/
def offsetFromBase (p : Params) (address : Int) : Int := address - p.base

/-- The register an access of this width at this offset addresses, or why it is refused (R62, R63). `BASE` is a multiple
of 32 (R60), so the address is 4-byte aligned exactly when the offset is. Which reason is named when several hold is the
model's choice (log 9). -/
def regAt (off : Int) (width : Nat) : Except Refusal Reg :=
  if width ≠ 4 then .error .badWidth
  else if off % 4 ≠ 0 then .error .misaligned
  else match regOfOffset off with
    | some r => .ok r
    | none => .error .outsideWindow

end Sys2Proof.Machine
end

