-- ==== Sys2Proof/Machine/Flags.lean ====
section
/-! DEFINITION. The STATUS and CONFIG words as the host reads them (spec/10_state.md R28, R35), and the fault conditions
(spec/60_exceptions.md R182). -/

namespace Sys2Proof.Machine

/-- The STATUS word (R28): FCODE at 11:8, FAULT, CSA, ROVR, RXFULL, BUSY at 4 to 0, every other bit 0. -/
def statusWord (st : Status) : Word :=
  0#20 ++ st.fcode ++ 0#3 ++ BitVec.ofBool st.fault ++ BitVec.ofBool st.csa ++ BitVec.ofBool st.rovr
    ++ BitVec.ofBool st.rxfull ++ BitVec.ofBool st.busy

/-- The CONFIG word (R35): SCKPU, CPOL, CPHA, RXEN, HWCS, EN, CFG at 6 to 0, every other bit 0. -/
def configWord (c : ConfigReg) : Word :=
  0#25 ++ BitVec.ofBool c.sckpu ++ BitVec.ofBool c.cpol ++ BitVec.ofBool c.cpha ++ BitVec.ofBool c.rxen
    ++ BitVec.ofBool c.hwcs ++ BitVec.ofBool c.en ++ BitVec.ofBool c.cfg

/-- The faults a command can report (R182), in the order of their codes, which is the order of priority (R183). -/
inductive FaultCode where
  | illegal
  | notInit
  | hwcsConflict
  | csOpen
  | csNotOpen
  | baudZero
  | divRange
  | notEnabled
  | noBaud
  | rxEmpty
deriving DecidableEq, Repr

/-- FCODE of a fault (R182). -/
def codeOf : FaultCode → BitVec 4
  | .illegal => 1#4
  | .notInit => 2#4
  | .hwcsConflict => 3#4
  | .csOpen => 4#4
  | .csNotOpen => 5#4
  | .baudZero => 6#4
  | .divRange => 7#4
  | .notEnabled => 8#4
  | .noBaud => 9#4
  | .rxEmpty => 10#4

/-- The condition under which a check of a decoded command fails (R182, "condition"). ILLEGAL is no check of a decoded
command. -/
def faultHolds (s : State) : FaultCode → Bool
  | .illegal => false
  | .notInit => !s.config.cfg
  | .hwcsConflict => s.config.hwcs
  | .csOpen => s.status.csa
  | .csNotOpen => !s.status.csa
  | .baudZero => s.arg1 == 0#32
  | .divRange => divisor s.arg0 s.arg1 == 0 || decide (s.params.divMax < divisor s.arg0 s.arg1)
  | .notEnabled => !s.config.en
  | .noBaud => s.div == 0#32
  | .rxEmpty => !s.status.rxfull

/-- The first of a command's checks that fails, in the order the command writes them (R183). -/
def firstFault (checks : List FaultCode) (s : State) : Option FaultCode :=
  checks.find? (faultHolds s)

end Sys2Proof.Machine
end

