-- ==== Sys2Proof/Machine/Ops.lean ====
section
/-! DEFINITION. The named operations every command is made of: faulting (spec/60_exceptions.md R181) with its only exit,
reset (R190, spec/70_reset_and_hazards.md R210), events, draws, the select line (spec/42_chip_select.md R143), the settle
wait (spec/43_register_access.md R160), the frame (spec/41_spi_transfer.md R120), capture (R127) and drain (R147). -/

namespace Sys2Proof.Machine

/-- `raise Fault(code)` during the command word `w` (R181, R189): FAULT, FCODE and FCMD, and nothing else. -/
def State.raiseFault (s : State) (code : FaultCode) (w : Word) : State :=
  { s with status := { s.status with fault := true, fcode := codeOf code }, fcmd := w }

/-- Reset, the only exit from FAULT = 1 (R190, R210): every element of the block takes its reset value. What is not the
block's keeps its value: the parameters, the clock gate, the environment, the host (log 5). -/
def State.applyReset (s : State) (rstN : Bool) : State :=
  { State.reset with
    params := s.params
    rstN := rstN
    blkClk := s.blkClk
    env := s.env
    host := s.host
    replies := s.replies }

/-- The common shape of a command (R180, R183, R184): ignored while FAULT = 1 (R185); the first failing check faults with
the command's own word in FCMD (log 8); with none failing, the effect. -/
def runCommand (i : Instr) (checks : List FaultCode) (effect : State → State) (s : State) :
    Host.Outcome State Fault Refusal :=
  if s.status.fault then .next s
  else match firstFault checks s with
    | some code => .next (s.raiseFault code (encode i))
    | none => .next (effect s)

/-- `emit` (R44): append one event to the trace. -/
def State.emit (s : State) (e : WireEvent) : State := { s with trace := s.trace ++ [e] }

/-- Answer the host (R234). -/
def State.reply (s : State) (r : Reply) : State := { s with replies := s.replies ++ [r] }

/-- Write STATUS.BUSY (R29). -/
def State.setBusy (s : State) (b : Bool) : State := { s with status := { s.status with busy := b } }

/-- `draw_u8()` with no `SlaveByte` function given (R15): the environment's next decided byte, else a free value (log 6). -/
def State.drawnByte (s : State) : Byte :=
  match s.env.slave with
  | b :: _ => b
  | [] => Config.freeByte s.env.draws

/-- The byte captured by the next frame (R15, R129). With RXEN = 1 it is what the slave drives: `SlaveByte(trace, tx)` when
that function is given, else a draw. With RXEN = 0 it is a free value under no law (log 6). -/
def State.misoByte (s : State) (tx : Byte) : Byte :=
  if s.config.rxen then
    if s.params.slaveGiven then Config.slaveByte s.trace tx else s.drawnByte
  else Config.freeByte s.env.draws

/-- The draw of a frame is made: the counter moves on, and the next decided byte is used up (log 6). -/
def State.drawByte (s : State) : State :=
  { s with env := { s.env with draws := s.env.draws + 1, slave := s.env.slave.tail } }

/-- Whether the next overflow keeps the older byte (R128, log 7). -/
def State.keepsOlder (s : State) : Bool :=
  match s.env.survivors with
  | .older :: _ => true
  | .newer :: _ => false
  | [] => Config.freeKeepsOld s.env.draws

/-- The draw of an overflow is made (R128). -/
def State.drawSurvivor (s : State) : State :=
  { s with env := { s.env with draws := s.env.draws + 1, survivors := s.env.survivors.tail } }

/-- The byte `Capture(rx)` leaves in RXBUF (R127, R128). -/
def State.captured (s : State) (rx : Byte) : Byte :=
  if s.status.rxfull && s.keepsOlder then s.rxbuf else rx

/-- `Capture(rx)` (R127): with RXFULL = 1 an overflow, which sets ROVR and leaves either byte (R128). -/
def State.capture (s : State) (rx : Byte) : State :=
  let t : State :=
    { s with
      rxbuf := s.captured rx
      status := { s.status with rovr := s.status.rovr || s.status.rxfull, rxfull := true } }
  if s.status.rxfull then t.drawSurvivor else t

/-- `cs_n_o <- low ; emit CsFall` (R143). -/
def State.selectLow (s : State) : State := s.emit .csFall

/-- The setup wait of `SelOn` (R143). -/
def State.setupWait (s : State) : State := s.emit (.wait .css s.params.tCssCyc)

/-- `SelOn` (R143): select low, then the setup wait. -/
def State.selOn (s : State) : State := s.selectLow.setupWait

/-- `SelOff` (R143): select high, no wait. -/
def State.selOff (s : State) : State := s.emit .csRise

/-- `Settle` (R160): the register-access settle wait. -/
def State.settle (s : State) : State := s.emit (.wait .settle s.params.tSettleUs)

/-- The internal select logic's part of a frame (R130): with HWCS = 1 the select line changes, with HWCS = 0 it is not
touched. -/
def State.hwSelect (s : State) (e : WireEvent) : State := if s.config.hwcs then s.emit e else s

/-- `TXSR <- tx ; BUSY <- 1`, the byte on MISO drawn, and with HWCS = 1 the select line low: the start of `ShiftByte`
(R120, R132 `TX_LOAD`). -/
def State.frameStart (s : State) (tx : Byte) : State :=
  ({ s with txsr := tx } : State).setBusy true |>.drawByte |>.hwSelect .csFall

/-- The end of `ShiftByte` (R120, R132 `TX_DONE`): the frame's event, with HWCS = 1 the select line high, the capture,
`BUSY <- 0`. -/
def State.frameEnd (s : State) (tx rx : Byte) : State :=
  (((s.emit (.frame tx rx s.config.cpol s.config.cpha s.div)).hwSelect .csRise).capture rx).setBusy false

/-- `ShiftByte(tx)` (R120): one 8-bit frame. It never faults, and it completes (R131, log 16). -/
def State.shiftByte (s : State) (tx : Byte) : State :=
  (s.frameStart tx).frameEnd tx (s.misoByte tx)

/-- `Drain()` (R147): the received byte is discarded. -/
def State.drain (s : State) : State := { s with status := { s.status with rxfull := false } }

/-- Deliver the received byte (R126, R160 step 5 of a read): `RESULT <- zext_32(RXBUF) ; RXFULL <- 0`. -/
def State.deliver (s : State) : State := { s.drain with result := s.rxbuf }

/-- `ShiftByte(b) ; Drain()` for each byte in turn (R145). -/
def State.shiftAll (s : State) : List Byte → State
  | [] => s
  | b :: rest => (s.shiftByte b).drain.shiftAll rest

/-- The effect of BURST (R145): the bytes inside one select assertion, each received byte drained, no settle waits. -/
def State.burst (s : State) (bytes : List Byte) : State := (s.selOn.shiftAll bytes).selOff

/-- Steps 1 to 4 of TRANSACT (R160): settle, select, opcode and register address with their bytes discarded. -/
def State.transactHead (s : State) (opc reg : Byte) : State := s.settle.selOn.shiftAll [opc, reg]

/-- Steps 6 and 7 of TRANSACT (R160): deselect, settle. -/
def State.transactTail (s : State) : State := s.selOff.settle

/-- The checks of BURST and TRANSACT, in order (R145, R160). -/
def transferChecks : List FaultCode := [.notInit, .hwcsConflict, .csOpen, .notEnabled, .noBaud]

end Sys2Proof.Machine
end

