-- ==== Sys2Proof/Machine/Sequencer.lean ====
section
/-! DEFINITION. The cycle-level reading of the sequencer: the transceiver's states (spec/41_spi_transfer.md R132) with the
SCK edges of a frame (R121, R122), BURST's states (spec/42_chip_select.md R146) and TRANSACT's
(spec/43_register_access.md R163). The commands' meanings are the event-level summary of these states (R120, R132); the
refinement between the two is stated in Certificates/Slice0/Obligations.lean (log 11). -/

namespace Sys2Proof.Machine

/-- The block samples both lines at an edge that takes SCK to `level`, storing MISO as `rx[k]` (R121, R122). -/
def Shifting.sampleBit (sh : Shifting) (k : Nat) (level : Bool) : Shifting :=
  { sh with
    sck := level
    rx := setBit sh.rx k (sh.miso.getLsbD k)
    edges := sh.edges ++ [{ level := level, sampled := some (sh.mosi, sh.miso.getLsbD k), driven := none }] }

/-- MOSI changes to a bit at an edge that takes SCK to `level`; `none`: no bit is left to drive (R121, R122). -/
def Shifting.driveBit (sh : Shifting) (bit : Option Bool) (level : Bool) : Shifting :=
  { sh with
    sck := level
    mosi := bit.or sh.mosi
    edges := sh.edges ++ [{ level := level, sampled := none, driven := bit }] }

/-- The leading edge of bit `k` (R132 `TX_BIT(k, lead)`): SCK goes active; CPHA = 0 samples, CPHA = 1 drives `tx[k]`. -/
def Shifting.leadEdge (sh : Shifting) (cpol cpha : Bool) (k : Nat) : Shifting :=
  if cpha then sh.driveBit (some (sh.tx.getLsbD k)) (!cpol) else sh.sampleBit k (!cpol)

/-- The trailing edge of bit `k` (R132 `TX_BIT(k, trail)`): SCK goes idle; CPHA = 0 drives `tx[k−1]` if `k > 0`, CPHA = 1
samples. -/
def Shifting.trailEdge (sh : Shifting) (cpol cpha : Bool) (k : Nat) : Shifting :=
  if cpha then sh.sampleBit k cpol
  else sh.driveBit (if k = 0 then none else some (sh.tx.getLsbD (k - 1))) cpol

/-- The transceiver just loaded (R132 `TX_LOAD`): SCK at its idle level; CPHA = 0 drives `tx[7]`. The received byte starts
as zeros, every bit of which the eight samples replace (log 12). -/
def shiftingStart (tx miso : Byte) (cpol cpha : Bool) : Shifting :=
  { tx := tx
    miso := miso
    rx := 0#8
    sck := cpol
    mosi := if cpha then none else some (tx.getLsbD 7)
    edges := [] }

/-- The bits of a frame from bit `k` down to bit 0, each with its two edges (R121, R122). -/
def Shifting.bitsFrom (sh : Shifting) (cpol cpha : Bool) : Nat → Shifting
  | 0 => (sh.leadEdge cpol cpha 0).trailEdge cpol cpha 0
  | k + 1 => (((sh.leadEdge cpol cpha (k + 1)).trailEdge cpol cpha (k + 1))).bitsFrom cpol cpha k

/-- A whole frame at bit level: the sixteen edges e1 to e16 and the byte assembled from the eight samples (R121 to
R123). -/
def frameBits (tx miso : Byte) (cpol cpha : Bool) : Shifting :=
  (shiftingStart tx miso cpol cpha).bitsFrom cpol cpha 7

/-- `BU_SHIFT(j)` of the next byte, or `BU_SEL_OFF` when none is left (R146). -/
def nextShift (j : Nat) : List Byte → Fsm
  | [] => .buSelOff
  | b :: rest => .txLoad b (.buShift j rest)

/-- Back in the caller's state after `TX_DONE` (R132): what that state does with the received byte, and its next state
(R146, R163). -/
def State.resume (s : State) : Caller → State
  | .command => { s with fsm := .idle }
  | .buShift j rest => { s with fsm := .buDrain j rest }
  | .raOpc a => { s.drain with fsm := .txLoad a.reg (.raReg a) }
  | .raReg a => { s.drain with fsm := .txLoad a.third (.raDat a) }
  | .raDat a => if a.write then { s.drain with fsm := .raSelOff } else { s.deliver with fsm := .raSelOff }

/-- The state after `TX_BIT(k, trail)` (R132). -/
def afterTrail (k : Nat) (sh : Shifting) (c : Caller) : Fsm :=
  match k with
  | 0 => .txDone sh c
  | k + 1 => .txBit k .lead sh c

/-- One state of the sequencer is performed, and `fsm` moves to the next one (R132, R146, R163). -/
def State.seqStep (s : State) : State :=
  match s.fsm with
  | .idle => s
  | .txLoad tx c =>
      { s.frameStart tx with
        fsm := .txBit 7 .lead (shiftingStart tx (s.misoByte tx) s.config.cpol s.config.cpha) c }
  | .txBit k .lead sh c =>
      { s with fsm := .txBit k .trail (sh.leadEdge s.config.cpol s.config.cpha k) c }
  | .txBit k .trail sh c =>
      { s with fsm := afterTrail k (sh.trailEdge s.config.cpol s.config.cpha k) c }
  | .txDone sh c => (s.frameEnd sh.tx sh.rx).resume c
  | .buSelOn bytes => { s.selectLow with fsm := .buSetup bytes }
  | .buSetup bytes => { s.setupWait with fsm := nextShift 0 bytes }
  | .buDrain j rest => { s.drain with fsm := nextShift (j + 1) rest }
  | .buSelOff => { s.selOff with fsm := .idle }
  | .raPre a => { s.settle with fsm := .raSelOn a }
  | .raSelOn a => { s.selectLow with fsm := .raSetup a }
  | .raSetup a => { s.setupWait with fsm := .txLoad a.opc (.raOpc a) }
  | .raSelOff => { s.selOff with fsm := .raPost }
  | .raPost => { s.settle with fsm := .idle }

/-- `n` states of the sequencer, one after the other. -/
def State.seqRun (s : State) : Nat → State
  | 0 => s
  | n + 1 => s.seqStep.seqRun n

/-- The sequencer state in which a command that shifts frames starts (R132, R146, R163). The other commands have no
sequencer states. -/
def entryState : Instr → Fsm
  | .init _ _ => .idle
  | .setbaud => .idle
  | .setmode _ _ => .idle
  | .wrbyte data => .txLoad data .command
  | .rdbyte => .idle
  | .csassert => .idle
  | .csdeassert => .idle
  | .transactW opc reg data => .raPre { write := true, opc := opc, reg := reg, third := data }
  | .transactR opc reg => .raPre { write := false, opc := opc, reg := reg, third := 0#8 }
  | .burst1 b0 => .buSelOn [b0]
  | .burst2 b0 b1 => .buSelOn [b0, b1]
  | .burst3 b0 b1 b2 => .buSelOn [b0, b1, b2]
  | .delay _ => .idle

/-- How many sequencer states the command runs through: 18 a frame (R132), with BURST's (R146) and TRANSACT's (R163)
around them. -/
def seqLength : Instr → Nat
  | .init _ _ => 0
  | .setbaud => 0
  | .setmode _ _ => 0
  | .wrbyte _ => 18
  | .rdbyte => 0
  | .csassert => 0
  | .csdeassert => 0
  | .transactW _ _ _ => 59
  | .transactR _ _ => 59
  | .burst1 _ => 22
  | .burst2 _ _ => 41
  | .burst3 _ _ _ => 60
  | .delay _ => 0

end Sys2Proof.Machine
end

