-- ==== Sys2Proof/Machine/ChipSelect.lean ====
section
/-! DEFINITION. The chip-select commands CSASSERT, CSDEASSERT and BURST, and DELAY (spec/42_chip_select.md). -/

namespace Sys2Proof.Machine

/-- Write STATUS.CSA (R32). -/
def State.setOpen (s : State) (b : Bool) : State := { s with status := { s.status with csa := b } }

/-- CSASSERT (R141): a software transaction is opened. -/
def execCsassert (s : State) : Host.Outcome State Fault Refusal :=
  runCommand .csassert [.notInit, .hwcsConflict, .csOpen] (fun s => (s.setOpen true).selOn) s

/-- CSDEASSERT (R142): the software transaction is closed. -/
def execCsdeassert (s : State) : Host.Outcome State Fault Refusal :=
  runCommand .csdeassert [.notInit, .hwcsConflict, .csNotOpen] (fun s => (s.setOpen false).selOff) s

/-- BURST with N = 1 (R145). -/
def execBurst1 (b0 : Byte) (s : State) : Host.Outcome State Fault Refusal :=
  runCommand (.burst1 b0) transferChecks (fun s => s.burst [b0]) s

/-- BURST with N = 2 (R145). -/
def execBurst2 (b0 b1 : Byte) (s : State) : Host.Outcome State Fault Refusal :=
  runCommand (.burst2 b0 b1) transferChecks (fun s => s.burst [b0, b1]) s

/-- BURST with N = 3 (R145). -/
def execBurst3 (b0 b1 b2 : Byte) (s : State) : Host.Outcome State Fault Refusal :=
  runCommand (.burst3 b0 b1 b2) transferChecks (fun s => s.burst [b0, b1, b2]) s

/-- DELAY (R152): only its event, in any state that has not faulted. -/
def execDelay (us : BitVec 24) (s : State) : Host.Outcome State Fault Refusal :=
  runCommand (.delay us) [] (fun s => s.emit (.wait .host us.toNat)) s

end Sys2Proof.Machine
end

