-- ==== Sys2Proof/Machine/RegisterAccess.lean ====
section
/-! DEFINITION. The register-access commands TRANSACT.W and TRANSACT.R (spec/43_register_access.md). -/

namespace Sys2Proof.Machine

/-- TRANSACT.W (R160, R161): the third byte is DATA and its answer is discarded. -/
def execTransactW (opc reg data : Byte) (s : State) : Host.Outcome State Fault Refusal :=
  runCommand (.transactW opc reg data) transferChecks
    (fun s => ((s.transactHead opc reg).shiftByte data).drain.transactTail) s

/-- TRANSACT.R (R160, R162): the third byte is the dummy 0x00 and its answer is delivered to RESULT. -/
def execTransactR (opc reg : Byte) (s : State) : Host.Outcome State Fault Refusal :=
  runCommand (.transactR opc reg) transferChecks
    (fun s => ((s.transactHead opc reg).shiftByte 0#8).deliver.transactTail) s

end Sys2Proof.Machine
end

