-- ==== Sys2Proof/Machine/SpiConfig.lean ====
section
/-! DEFINITION. The configuration commands INIT, SETBAUD and SETMODE (spec/40_spi_config.md). -/

namespace Sys2Proof.Machine

/-- Write CONFIG.EN (R37). -/
def State.setEnable (s : State) (b : Bool) : State := { s with config := { s.config with en := b } }

/-- The effect of INIT after its check (R100). -/
def State.initialize (s : State) (hwcs rxen : Bool) : State :=
  let t := s.setEnable false
  { t with
    config := { t.config with cfg := true, hwcs := hwcs, rxen := rxen }
    status := { t.status with rxfull := false, rovr := false } }

/-- INIT (R100). -/
def execInit (hwcs rxen : Bool) (s : State) : Host.Outcome State Fault Refusal :=
  runCommand (.init hwcs rxen) [.csOpen] (fun s => s.initialize hwcs rxen) s

/-- Install a divisor with the peripheral disabled while it is written (R102, R59). -/
def State.installDivisor (s : State) (d : Nat) : State :=
  ({ s.setEnable false with div := BitVec.ofNat 32 d } : State).setEnable true

/-- SETBAUD (R102). -/
def execSetbaud (s : State) : Host.Outcome State Fault Refusal :=
  runCommand .setbaud [.notInit, .csOpen, .baudZero, .divRange]
    (fun s => s.installDivisor (divisor s.arg0 s.arg1)) s

/-- Install a mode and its pull-up with the peripheral disabled while they are written (R106, R59). -/
def State.installMode (s : State) (cpol cpha : Bool) : State :=
  let t := s.setEnable false
  ({ t with config := { t.config with cpol := cpol, cpha := cpha, sckpu := cpol } } : State).setEnable true

/-- SETMODE (R106). -/
def execSetmode (cpol cpha : Bool) (s : State) : Host.Outcome State Fault Refusal :=
  runCommand (.setmode cpol cpha) [.notInit, .csOpen] (fun s => s.installMode cpol cpha) s

end Sys2Proof.Machine
end

