-- ==== Sys2Proof/Machine/SpiTransfer.lean ====
section
/-! DEFINITION. The transfer commands WRBYTE and RDBYTE (spec/41_spi_transfer.md). -/

namespace Sys2Proof.Machine

/-- WRBYTE (R125): one frame; the received byte waits in RXBUF. -/
def execWrbyte (data : Byte) (s : State) : Host.Outcome State Fault Refusal :=
  runCommand (.wrbyte data) [.notInit, .notEnabled, .noBaud] (fun s => s.shiftByte data) s

/-- RDBYTE (R126): the received byte is delivered to RESULT. -/
def execRdbyte (s : State) : Host.Outcome State Fault Refusal :=
  runCommand .rdbyte [.notInit, .rxEmpty] State.deliver s

end Sys2Proof.Machine
end

