-- ==== Sys2Proof/Machine/Dispatch.lean ====
section
/-! DEFINITION. exec: one arm per command, each one call of its meaning. -/

namespace Sys2Proof.Machine

def exec (i : Instr) (s : State) : Host.Outcome State Fault Refusal :=
  match i with
  -- spec/40_spi_config.md
  | .init hwcs rxen => Sys2Proof.Machine.execInit hwcs rxen s
  | .setbaud => Sys2Proof.Machine.execSetbaud s
  | .setmode cpol cpha => Sys2Proof.Machine.execSetmode cpol cpha s
  -- spec/41_spi_transfer.md
  | .wrbyte data => Sys2Proof.Machine.execWrbyte data s
  | .rdbyte => Sys2Proof.Machine.execRdbyte s
  -- spec/42_chip_select.md
  | .csassert => Sys2Proof.Machine.execCsassert s
  | .csdeassert => Sys2Proof.Machine.execCsdeassert s
  -- spec/43_register_access.md
  | .transactW opc reg data => Sys2Proof.Machine.execTransactW opc reg data s
  | .transactR opc reg => Sys2Proof.Machine.execTransactR opc reg s
  -- spec/42_chip_select.md
  | .burst1 b0 => Sys2Proof.Machine.execBurst1 b0 s
  | .burst2 b0 b1 => Sys2Proof.Machine.execBurst2 b0 b1 s
  | .burst3 b0 b1 b2 => Sys2Proof.Machine.execBurst3 b0 b1 b2 s
  | .delay us => Sys2Proof.Machine.execDelay us s

end Sys2Proof.Machine
end

