-- ==== Sys2Proof/Machine/Window.lean ====
section
/-! DEFINITION. The host's side: executing a command word (spec/60_exceptions.md R180), the register window
(spec/20_memory.md R60 to R77) and the platform's pins (spec/70_reset_and_hazards.md R210, R214, R234). -/

namespace Sys2Proof.Machine

/-- `Execute(w)` (R180): ignored while FAULT = 1, ILLEGAL when no row matches, else the command. -/
def execute (w : Word) (s : State) : Host.Outcome State Fault Refusal :=
  if s.status.fault then .next s
  else match decode w with
    | .illegal _ => .next (s.raiseFault .illegal w)
    | .command i => exec i s

/-- The value a host read returns (R24, R61): `none` for CMD, which holds no state (R23). -/
def State.readReg (s : State) : Reg → Option Word
  | .cmd => none
  | .arg0 => some s.arg0
  | .arg1 => some s.arg1
  | .result => some (zext32 s.result)
  | .status => some (statusWord s.status)
  | .config => some (configWord s.config)
  | .div => some s.div
  | .fcmd => some s.fcmd

/-- Whether the block takes accesses at all: out of reset (R210), its clock gate open and settled (R77). -/
def accessGate (s : State) : Option Refusal :=
  if !s.rstN then some .heldInReset
  else match s.blkClk with
    | .settled => none
    | .closed => some .clockGated
    | .settling => some .clockGated

/-- A host read (R61, R68): the value, and no other effect; a read of CMD is refused (R63). -/
def hostRead (off : Int) (width : Nat) (s : State) : Host.Outcome State Fault Refusal :=
  match accessGate s with
  | some why => .refused why
  | none =>
    match regAt off width with
    | .error why => .refused why
    | .ok r =>
      match s.readReg r with
      | some v => .next (s.reply (.data v))
      | none => .refused .readOfCmd

/-- The host's write completes when what it started has (R72). -/
def completeWrite : Host.Outcome State Fault Refusal → Host.Outcome State Fault Refusal
  | .next s => .next (s.reply .done)
  | .fault r => .fault r
  | .refused r => .refused r

/-- What a write of `v` to a register does (R24, R61): CMD executes it, ARG0 and ARG1 take all 32 bits, the rest are
read-only (R63). -/
def writeReg (r : Reg) (v : Word) (s : State) : Host.Outcome State Fault Refusal :=
  match r with
  | .cmd => execute v s
  | .arg0 => .next { s with arg0 := v }
  | .arg1 => .next { s with arg1 := v }
  | .result => .refused .writeOfReadOnly
  | .status => .refused .writeOfReadOnly
  | .config => .refused .writeOfReadOnly
  | .div => .refused .writeOfReadOnly
  | .fcmd => .refused .writeOfReadOnly

/-- A host write (R61 to R63, R72). -/
def hostWrite (off : Int) (width : Nat) (v : Word) (s : State) : Host.Outcome State Fault Refusal :=
  match accessGate s with
  | some why => .refused why
  | none =>
    match regAt off width with
    | .error why => .refused why
    | .ok r => completeWrite (writeReg r v s)

/-- The platform's settle time passes: it counts only while the gate is open (R214). -/
def settleGate : ClkGate → ClkGate
  | .closed => .closed
  | .settling => .settled
  | .settled => .settled

/-- The platform opens the gate: a closed gate begins to settle (R214). -/
def openGate : ClkGate → ClkGate
  | .closed => .settling
  | .settling => .settling
  | .settled => .settled

/-- A host step between commands (R234, log 21). -/
def serve (h : HostStep) (s : State) : Host.Outcome State Fault Refusal :=
  match h with
  | .read off width => hostRead off width s
  | .write off width v => hostWrite off width v s
  | .rstLow => .next (s.applyReset false)
  | .rstHigh => .next { s with rstN := true }
  | .gateClose => .next { s with blkClk := .closed }
  | .gateOpen => .next { s with blkClk := openGate s.blkClk }
  | .gateSettled => .next { s with blkClk := settleGate s.blkClk }

/-- The host steps that move `rst_n` or `blk_clk_en`, which R234 allows between commands only. The passing of the settle
time moves no pin. -/
def isPinChange : HostStep → Bool
  | .read _ _ => false
  | .write _ _ _ => false
  | .rstLow => true
  | .rstHigh => true
  | .gateClose => true
  | .gateOpen => true
  | .gateSettled => false

end Sys2Proof.Machine
end

