-- ==== Sys2Proof/Machine/Cycle.lean ====
section
/-! DEFINITION. One step of the machine: between commands the next host step is served (spec/20_memory.md R71, R72); in
the middle of a command the host is stalled and the sequencer moves on (R72). -/

namespace Sys2Proof.Machine

/-- A step with `fsm` = IDLE: the next host step is served; with none to come the block waits (R212, log 1). -/
def boundaryStep (s : State) : Host.Outcome State Fault Refusal :=
  match s.host with
  | [] => .next s
  | h :: rest => serve h { s with host := rest }

/-- A step in the middle of a command: a host access stays stalled (R72) and the sequencer performs one state; a reset or
clock-gate change has no move (R211, R234, log 10). -/
def midCommandStep (s : State) : Host.Outcome State Fault Refusal :=
  match s.host with
  | [] => .next s.seqStep
  | h :: _ => if isPinChange h then .fault .pinChangeMidCommand else .next s.seqStep

/-- One step of the machine. Commands run to completion inside the step that serves their CMD write (R74), so no step from
a command boundary leaves the machine in the middle of one. -/
def tick (s : State) : Host.Outcome State Fault Refusal :=
  if s.fsm = .idle then boundaryStep s else midCommandStep s

end Sys2Proof.Machine
end

