-- ==== Sys2Proof/Machine/Step.lean ====
section
/-! DEFINITION. The machine's step, and a state whose next step runs a given command word. -/

namespace Sys2Proof.Machine

/-- One step (R71, R72, R234). -/
def step (s : State) : Host.Outcome State Fault Refusal := tick s

/-- `s` with the host about to write the word `w` to CMD (R61: offset 0x00, 4 bytes wide), at a command boundary, out of
reset, with the clock gate open and settled: all that the next step needs to run the word (log 1). -/
def State.withFetchWord (s : State) (nbits w : Nat) : State :=
  { s with
    host := .write 0 4 (BitVec.ofNat 32 (w % 2 ^ nbits)) :: s.host
    fsm := .idle
    rstN := true
    blkClk := .settled }

end Sys2Proof.Machine
end

