-- ==== Sys2Proof/Machine/Pins.lean ====
section
/-! DEFINITION. The output pins (spec/10_state.md R50 to R53), as functions of the state: at a command boundary, and in
the middle of a command as the sequencer has left them. -/

namespace Sys2Proof.Machine

/-- The transceiver is inside a frame: `TX_LOAD` is performed and `TX_DONE` is not (R130, R132). -/
def inFrame : Fsm → Option Shifting
  | .txBit _ _ sh _ => some sh
  | .txDone sh _ => some sh
  | .idle => none
  | .txLoad _ _ => none
  | .buSelOn _ => none
  | .buSetup _ => none
  | .buDrain _ _ => none
  | .buSelOff => none
  | .raPre _ => none
  | .raSelOn _ => none
  | .raSetup _ => none
  | .raSelOff => none
  | .raPost => none

/-- A frame whose caller is a state of BURST or TRANSACT, which hold the select line (R146, R163). -/
def callerHoldsSelect : Caller → Bool
  | .command => false
  | .buShift _ _ => true
  | .raOpc _ => true
  | .raReg _ => true
  | .raDat _ => true

/-- BURST or TRANSACT holds the select line: its `SelOn` is performed and its `SelOff` is not (R146, R163). -/
def holdsSelect : Fsm → Bool
  | .idle => false
  | .txLoad _ c => callerHoldsSelect c
  | .txBit _ _ _ c => callerHoldsSelect c
  | .txDone _ c => callerHoldsSelect c
  | .buSelOn _ => false
  | .buSetup _ => true
  | .buDrain _ _ => true
  | .buSelOff => true
  | .raPre _ => false
  | .raSelOn _ => false
  | .raSetup _ => true
  | .raSelOff => true
  | .raPost => false

/-- `cs_n_o` (R51, R130). -/
def csN (s : State) : Level :=
  if !s.config.cfg then .hiZ
  else if s.config.hwcs then Level.ofBit (inFrame s.fsm).isNone
  else Level.ofBit (!(s.status.csa || holdsSelect s.fsm))

/-- `sck_o` (R52): inside a frame the level the last edge left. -/
def sck (s : State) : Level :=
  if !s.config.cfg then .hiZ
  else match inFrame s.fsm with
    | some sh => Level.ofBit sh.sck
    | none =>
      if s.config.en then Level.ofBit s.config.cpol
      else if s.config.sckpu then .pulledHigh
      else .hiZ

/-- `mosi_o` (R53): inside a frame the bit driven; outside frames, and inside one before its first bit is driven, any
level (log 13). -/
def mosi (s : State) : Level :=
  if !s.config.cfg then .hiZ
  else match (inFrame s.fsm).bind Shifting.mosi with
    | some b => Level.ofBit b
    | none => Config.freeMosi s.env.draws

/-- `sck_pu_o` (R41, R50). -/
def sckPu (s : State) : Bool := s.config.sckpu

/-- `port_clk_en_o` (R50, R109). -/
def portClkEn (s : State) : Bool := s.config.cfg

end Sys2Proof.Machine
end

