-- ==== Sys2Proof/Machine/Timing.lean ====
section
/-! DEFINITION. Nominal durations (spec/70_reset_and_hazards.md R232) and baud generation (spec/40_spi_config.md R105), as
functions of the trace and the registers. No step uses them: time is not modelled (R231, log 16), and each duration is a
lower bound (R232). -/

namespace Sys2Proof.Machine

/-- A wire event's nominal length in input-clock cycles (R124, R232): a frame lasts 8 × DIV cycles, a select change
none. -/
def eventCycles (p : Params) : WireEvent → Nat
  | .csFall => 0
  | .csRise => 0
  | .frame _ _ _ _ div => 8 * div.toNat
  | .wait .css n => n
  | .wait .settle n => n * p.clkPerUs
  | .wait .host n => n * p.clkPerUs

/-- The nominal length of a list of events (R232). -/
def traceCycles (p : Params) (events : List WireEvent) : Nat := (events.map (eventCycles p)).sum

/-- One SCK period in input-clock cycles (R105). -/
def sckPeriodCycles (s : State) : Nat := s.div.toNat

/-- The achieved baud in bits per second: `F_CLK / DIV` (R105). -/
def achievedBaud (s : State) : Rat := (s.params.fClk : Rat) / (s.div.toNat : Rat)

end Sys2Proof.Machine
end

