-- ==== Sys2Proof/Safety.lean ====
section
/-! DEFINITION. The terms claims about the block are stated in: the conditions under which it accepts a command, its
invariants (spec/10_state.md R55), the fault table (spec/60_exceptions.md R182), what the host can observe
(spec/00_scope.md R18), and the shape of a select bracket (spec/42_chip_select.md R149, R150). Written from the spec's
words, not from the machine's definitions. -/

namespace Sys2Proof.Machine

/-! ### When the block accepts accesses and commands -/

/-- The block takes host accesses: at a command boundary (R72), out of reset (R210), its clock open and settled (R77). -/
abbrev AtBoundary (s : State) : Prop := s.fsm = .idle ∧ s.rstN = true ∧ s.blkClk = .settled

/-- The host's next access is a write of the word `w` to CMD (R61). -/
abbrev NextCommand (s : State) (w : Word) (rest : List HostStep) : Prop :=
  AtBoundary s ∧ s.host = .write 0 4 w :: rest

/-- WRBYTE runs (R125): no fault recorded, and none of its checks fails. -/
abbrev FrameReady (s : State) : Prop :=
  s.status.fault = false ∧ s.config.cfg = true ∧ s.config.en = true ∧ s.div ≠ 0#32

/-- BURST and TRANSACT run (R145, R160): no fault recorded, and none of their checks fails. -/
abbrev TransferReady (s : State) : Prop :=
  s.status.fault = false ∧ s.config.cfg = true ∧ s.config.hwcs = false ∧ s.status.csa = false ∧
    s.config.en = true ∧ s.div ≠ 0#32

/-- `Ready(cpol, cpha, d)`, the shared launch premise for claims about transfers (R217). -/
abbrev Ready (cpol cpha : Bool) (d : Word) (s : State) : Prop :=
  s.status.fault = false ∧ s.config.cfg = true ∧ s.config.en = true ∧ s.config.hwcs = false ∧ s.config.rxen = true ∧
    s.status.csa = false ∧ s.status.rxfull = false ∧ s.status.rovr = false ∧ s.config.cpol = cpol ∧
    s.config.cpha = cpha ∧ s.div = d ∧ 1 ≤ d.toNat ∧ d.toNat ≤ s.params.divMax ∧ s.fsm = .idle ∧ s.status.busy = false

/-- BURST1, BURST2, BURST3, TRANSACT.W or TRANSACT.R: the commands with a select bracket of their own (R149). -/
def hasOwnBracket : Instr → Bool
  | .init _ _ => false
  | .setbaud => false
  | .setmode _ _ => false
  | .wrbyte _ => false
  | .rdbyte => false
  | .csassert => false
  | .csdeassert => false
  | .transactW _ _ _ => true
  | .transactR _ _ => true
  | .burst1 _ => true
  | .burst2 _ _ => true
  | .burst3 _ _ _ => true
  | .delay _ => false

/-- The bytes a command with a bracket of its own sends, in order (R66, R145, R161, R162). -/
def bytesSent : Instr → List Byte
  | .init _ _ => []
  | .setbaud => []
  | .setmode _ _ => []
  | .wrbyte data => [data]
  | .rdbyte => []
  | .csassert => []
  | .csdeassert => []
  | .transactW opc reg data => [opc, reg, data]
  | .transactR opc reg => [opc, reg, 0#8]
  | .burst1 b0 => [b0]
  | .burst2 b0 b1 => [b0, b1]
  | .burst3 b0 b1 b2 => [b0, b1, b2]
  | .delay _ => []

/-! ### Invariants -/

/-- What holds at every command boundary (R55). -/
abbrev BoundaryInv (s : State) : Prop :=
  (s.status.csa = true → s.config.cfg = true ∧ s.config.hwcs = false) ∧
  (s.div = 0#32 ∨ (1 ≤ s.div.toNat ∧ s.div.toNat ≤ s.params.divMax)) ∧
  (s.status.fault = false ↔ s.status.fcode = 0#4) ∧
  (s.status.fault = false → s.fcmd = 0#32) ∧
  (s.status.rovr = true → s.config.cfg = true) ∧
  s.fsm = .idle ∧
  s.status.busy = false

/-- The level of the select line after a list of recorded changes (R51): `some true` when it is low, `some false` when it is
high, `none` when a recorded change is none, a fall of a low line or a rise of a high one. -/
def selectAfter : List WireEvent → Option Bool
  | [] => some false
  | e :: rest =>
    match selectAfter rest, e with
    | some false, .csFall => some true
    | some true, .csRise => some false
    | some low, .frame _ _ _ _ _ => some low
    | some low, .wait _ _ => some low
    | _, _ => none

/-- The select line's changes as the trace records them (R44, R51): read from its first event to its last, falls and rises
alternate, and the line is low at the end exactly when a software transaction is open. -/
abbrev SelectInv (s : State) : Prop := selectAfter s.trace.reverse = some s.status.csa

/-- The sequencer is in a state of BURST or TRANSACT, a frame of one among them (R146, R163). -/
def ownsSelect : Fsm → Bool
  | .idle => false
  | .txLoad _ c => callerHoldsSelect c
  | .txBit _ _ _ c => callerHoldsSelect c
  | .txDone _ c => callerHoldsSelect c
  | .buSelOn _ => true
  | .buSetup _ => true
  | .buDrain _ _ => true
  | .buSelOff => true
  | .raPre _ => true
  | .raSelOn _ => true
  | .raSetup _ => true
  | .raSelOff => true
  | .raPost => true

/-- Who moves the select line inside a command: the block is initialized, a software transaction is open only with HWCS = 0,
and BURST and TRANSACT run only with HWCS = 0 and none open (R51, R130, R145, R160). -/
abbrev SequencerSelectInv (s : State) : Prop :=
  s.config.cfg = true ∧
  (s.status.csa = true → s.config.hwcs = false) ∧
  (ownsSelect s.fsm = true → s.config.hwcs = false ∧ s.status.csa = false)

/-- The pull-up follows the polarity (R41), and only an initialized peripheral is enabled, has a divisor, or holds a
received byte (R36, R37, R42, R30). -/
abbrev ModeInv (s : State) : Prop :=
  s.config.sckpu = s.config.cpol ∧
  (s.config.en = true → s.config.cfg = true) ∧
  (s.div ≠ 0#32 → s.config.cfg = true) ∧
  (s.status.rxfull = true → s.config.cfg = true)

/-! ### The fault table -/

/-- A row of the fault table (R182): the code, the commands that raise it, and the condition. -/
structure FaultRow where
  code : BitVec 4
  raisedBy : Instr → Bool
  condition : State → Bool

/-- SETBAUD's divisor from the operand registers, by the source's procedure (R102): `q` is the floor of `2 f / b`, and the
divisor the floor of `(q + 1) / 2`. -/
def computedDivisor (s : State) : Nat := (2 * s.arg0.toNat / s.arg1.toNat + 1) / 2

/-- The rows of R182 for decoded commands, in the order of their codes, which is their priority (R183). -/
def faultTable : List FaultRow :=
  [ { code := 2#4, condition := fun s => !s.config.cfg,
      raisedBy := fun
        | .setbaud | .setmode _ _ | .wrbyte _ | .rdbyte | .csassert | .csdeassert | .transactW _ _ _ | .transactR _ _
        | .burst1 _ | .burst2 _ _ | .burst3 _ _ _ => true
        | .init _ _ | .delay _ => false },
    { code := 3#4, condition := fun s => s.config.hwcs,
      raisedBy := fun
        | .csassert | .csdeassert | .transactW _ _ _ | .transactR _ _ | .burst1 _ | .burst2 _ _ | .burst3 _ _ _ => true
        | .init _ _ | .setbaud | .setmode _ _ | .wrbyte _ | .rdbyte | .delay _ => false },
    { code := 4#4, condition := fun s => s.status.csa,
      raisedBy := fun
        | .init _ _ | .setbaud | .setmode _ _ | .csassert | .transactW _ _ _ | .transactR _ _
        | .burst1 _ | .burst2 _ _ | .burst3 _ _ _ => true
        | .wrbyte _ | .rdbyte | .csdeassert | .delay _ => false },
    { code := 5#4, condition := fun s => !s.status.csa,
      raisedBy := fun
        | .csdeassert => true
        | .init _ _ | .setbaud | .setmode _ _ | .wrbyte _ | .rdbyte | .csassert | .transactW _ _ _ | .transactR _ _
        | .burst1 _ | .burst2 _ _ | .burst3 _ _ _ | .delay _ => false },
    { code := 6#4, condition := fun s => decide (s.arg1.toNat = 0),
      raisedBy := fun
        | .setbaud => true
        | .init _ _ | .setmode _ _ | .wrbyte _ | .rdbyte | .csassert | .csdeassert | .transactW _ _ _ | .transactR _ _
        | .burst1 _ | .burst2 _ _ | .burst3 _ _ _ | .delay _ => false },
    { code := 7#4,
      condition := fun s => decide (computedDivisor s = 0 ∨ s.params.divMax < computedDivisor s),
      raisedBy := fun
        | .setbaud => true
        | .init _ _ | .setmode _ _ | .wrbyte _ | .rdbyte | .csassert | .csdeassert | .transactW _ _ _ | .transactR _ _
        | .burst1 _ | .burst2 _ _ | .burst3 _ _ _ | .delay _ => false },
    { code := 8#4, condition := fun s => !s.config.en,
      raisedBy := fun
        | .wrbyte _ | .transactW _ _ _ | .transactR _ _ | .burst1 _ | .burst2 _ _ | .burst3 _ _ _ => true
        | .init _ _ | .setbaud | .setmode _ _ | .rdbyte | .csassert | .csdeassert | .delay _ => false },
    { code := 9#4, condition := fun s => decide (s.div.toNat = 0),
      raisedBy := fun
        | .wrbyte _ | .transactW _ _ _ | .transactR _ _ | .burst1 _ | .burst2 _ _ | .burst3 _ _ _ => true
        | .init _ _ | .setbaud | .setmode _ _ | .rdbyte | .csassert | .csdeassert | .delay _ => false },
    { code := 10#4, condition := fun s => !s.status.rxfull,
      raisedBy := fun
        | .rdbyte => true
        | .init _ _ | .setbaud | .setmode _ _ | .wrbyte _ | .csassert | .csdeassert | .transactW _ _ _ | .transactR _ _
        | .burst1 _ | .burst2 _ _ | .burst3 _ _ _ | .delay _ => false } ]

/-- The code a command reports in a state (R182, R183): that of the first row it raises whose condition holds. -/
def reportedCode (i : Instr) (s : State) : Option (BitVec 4) :=
  (faultTable.find? fun r => r.raisedBy i && r.condition s).map FaultRow.code

/-- `s` with the fault `code` raised by the command word `w` (R181): FAULT, FCODE and FCMD, and nothing else. -/
def faulted (s : State) (code : BitVec 4) (w : Word) : State :=
  { s with status := { s.status with fault := true, fcode := code }, fcmd := w }

/-! ### Observation and frames -/

/-- The host-visible registers (R18, R24): ARG0, ARG1, RESULT, STATUS, CONFIG, DIV, FCMD. -/
def hostVisible (s : State) : List (Option Word) :=
  [.arg0, .arg1, .result, .status, .config, .div, .fcmd].map s.readReg

/-- What no command that shifts a frame changes: everything but TXSR, RXBUF, RESULT, STATUS.BUSY, RXFULL and ROVR, the
trace, and the environment's draws. -/
abbrev TransferFrame (s t : State) : Prop :=
  t.params = s.params ∧ t.arg0 = s.arg0 ∧ t.arg1 = s.arg1 ∧ t.config = s.config ∧ t.div = s.div ∧ t.fcmd = s.fcmd ∧
  t.status.csa = s.status.csa ∧ t.status.fault = s.status.fault ∧ t.status.fcode = s.status.fcode ∧
  t.fsm = s.fsm ∧ t.rstN = s.rstN ∧ t.blkClk = s.blkClk ∧ t.host = s.host ∧ t.replies = s.replies

/-- An event that changes the select line. -/
def isSelectEvent : WireEvent → Bool
  | .csFall => true
  | .csRise => true
  | .frame _ _ _ _ _ => false
  | .wait _ _ => false

/-- A `Frame` event. -/
def isFrame : WireEvent → Bool
  | .csFall => false
  | .csRise => false
  | .frame _ _ _ _ _ => true
  | .wait _ _ => false

/-- A `Wait(SETTLE, n)` event. -/
def isSettle : WireEvent → Bool
  | .csFall => false
  | .csRise => false
  | .frame _ _ _ _ _ => false
  | .wait .css _ => false
  | .wait .settle _ => true
  | .wait .host _ => false

/-- `events` is one select bracket around `n` frames (R149, R150, R165): one fall, one later rise, no other change of the
select line, and the `n` frames all between the two. -/
def Bracketed (n : Nat) (events : List WireEvent) : Prop :=
  ∃ before inside after : List WireEvent,
    events = before ++ [.csFall] ++ inside ++ [.csRise] ++ after ∧
    (∀ e ∈ before ++ inside ++ after, isSelectEvent e = false) ∧
    (∀ e ∈ before ++ after, isFrame e = false) ∧
    (inside.filter isFrame).length = n

/-- The `Frame` events of the bytes `tx` with the answers `rx`, in the mode and divisor of `s` (R120, R123). -/
def framesOf (s : State) (tx rx : List Byte) : List WireEvent :=
  List.zipWith (fun t r => .frame t r s.config.cpol s.config.cpha s.div) tx rx

/-! ### Assembler lines -/

/-- A command as a line of assembler (R96): its operands as numbers. -/
def lineOf : Instr → AsmLine
  | .init hwcs rxen => .init hwcs.toNat rxen.toNat
  | .setbaud => .setbaud
  | .setmode cpol cpha => .setmode cpol.toNat cpha.toNat
  | .wrbyte data => .wrbyte data.toNat
  | .rdbyte => .rdbyte
  | .csassert => .csassert
  | .csdeassert => .csdeassert
  | .transactW opc reg data => .transactW opc.toNat reg.toNat data.toNat
  | .transactR opc reg => .transactR opc.toNat reg.toNat
  | .burst1 b0 => .burst [b0.toNat]
  | .burst2 b0 b1 => .burst [b0.toNat, b1.toNat]
  | .burst3 b0 b1 b2 => .burst [b0.toNat, b1.toNat, b2.toNat]
  | .delay us => .delay us.toNat

/-! ### Illegal words -/

/-- `OP`, bits 31:28 of a word (R80). -/
abbrev opOf (w : Word) : Nat := (w.extractLsb' 28 4).toNat

/-- The words that select no command, by their fields (R93): an unassigned OP, a reserved bit set, a TRANSACT.R word with
DATA ≠ 0, a BURST word with N = 0, or a BURST word with a nonzero byte beyond its count. -/
abbrev IllegalFields (w : Word) : Prop :=
  opOf w = 0 ∨ 11 ≤ opOf w ∨
  ((opOf w = 1 ∨ opOf w = 3) ∧ w.extractLsb' 2 26 ≠ 0#26) ∨
  ((opOf w = 2 ∨ opOf w = 5 ∨ opOf w = 6 ∨ opOf w = 7) ∧ w.extractLsb' 0 28 ≠ 0#28) ∨
  (opOf w = 4 ∧ w.extractLsb' 8 20 ≠ 0#20) ∨
  (opOf w = 8 ∧ (w.extractLsb' 25 3 ≠ 0#3 ∨ (w.extractLsb' 24 1 = 0#1 ∧ w.extractLsb' 0 8 ≠ 0#8))) ∨
  (opOf w = 9 ∧ (w.extractLsb' 24 2 ≠ 0#2 ∨ w.extractLsb' 26 2 = 0#2 ∨
    (w.extractLsb' 26 2 = 1#2 ∧ w.extractLsb' 0 16 ≠ 0#16) ∨
    (w.extractLsb' 26 2 = 2#2 ∧ w.extractLsb' 0 8 ≠ 0#8))) ∨
  (opOf w = 10 ∧ w.extractLsb' 24 4 ≠ 0#4)

end Sys2Proof.Machine
end

