-- ==== Sys2Proof/Certificates/Slice0/Obligations.lean ====
section
/-! DEFINITION. The statements about the block, for the provers. Each docstring says which rule of spec/ it formalises. -/

open Sys2Proof Sys2Proof.Machine

/-! ## Encoding (spec/30_encoding.md) -/

/-- Every command survives encoding and decoding, with every operand at every value its field admits (R80 to R92). -/
def Obligations.DecodeOfEncodeIsTheCommand : Prop :=
  ∀ i : Instr, decode (encode i) = .command i

/-- A word that decodes is the one word of its command: no bit of a legal word is dropped (R80, R93). -/
def Obligations.EncodeOfDecodeIsTheWord : Prop :=
  ∀ (w : Word) (i : Instr), decode w = .command i → encode i = w

/-- R92: every word matches at most one row; a word that matches a row decodes to that row's command with its fields, and a
word that matches none is illegal. -/
def Obligations.DecodeTakesTheUniqueRow : Prop :=
  (∀ w : Word, opcodeTable.Pairwise fun r₁ r₂ => ¬ (r₁.hits w = true ∧ r₂.hits w = true)) ∧
  (∀ (w : Word) (r : OpcodeRow), r ∈ opcodeTable → w &&& r.mask = r.pattern → decode w = .command (r.command w)) ∧
  (∀ w : Word, (∀ r ∈ opcodeTable, w &&& r.mask ≠ r.pattern) → ∃ why, decode w = .illegal why)

/-- R93: the illegal words are exactly those of `IllegalFields`, and executing one raises ILLEGAL and has no other
effect. -/
def Obligations.IllegalWordsFaultIllegal : Prop :=
  (∀ w : Word, (∃ why, decode w = .illegal why) ↔ IllegalFields w) ∧
  (∀ (w : Word) (s : State), IllegalFields w → s.status.fault = false → execute w s = .next (faulted s 1#4 w))

/-- R99: the encoding examples. -/
def Obligations.EncodingExamples : Prop :=
  [Instr.init false true, .setbaud, .setmode true true, .wrbyte 0xA5#8, .rdbyte, .csassert, .csdeassert,
    .transactW 0x46#8 0x05#8 0x02#8, .transactR 0x47#8 0x09#8, .burst1 0xAB#8, .burst2 0x12#8 0x34#8,
    .burst3 0x46#8 0x05#8 0x02#8, .delay 100000#24].map encode
  = [0x10000002#32, 0x20000000#32, 0x30000003#32, 0x400000A5#32, 0x50000000#32, 0x60000000#32, 0x70000000#32,
    0x81460502#32, 0x80470900#32, 0x94AB0000#32, 0x98123400#32, 0x9C460502#32, 0xA00186A0#32] ∧
  [0x10000002#32, 0x20000000#32, 0x30000003#32, 0x400000A5#32, 0x50000000#32, 0x60000000#32, 0x70000000#32,
    0x81460502#32, 0x80470900#32, 0x94AB0000#32, 0x98123400#32, 0x9C460502#32, 0xA00186A0#32].map decode
  = [Instr.init false true, .setbaud, .setmode true true, .wrbyte 0xA5#8, .rdbyte, .csassert, .csdeassert,
    .transactW 0x46#8 0x05#8 0x02#8, .transactR 0x47#8 0x09#8, .burst1 0xAB#8, .burst2 0x12#8 0x34#8,
    .burst3 0x46#8 0x05#8 0x02#8, .delay 100000#24].map Decoded.command

/-- R96: a line with an operand outside its range is an assembly error, each range written out; and every other line is the
one command whose operands have the values the line gives. -/
def Obligations.AssemblerRefusesExactlyIllFormedLines : Prop :=
  (∀ (l : AsmLine) (i : Instr), l.assemble = some i ↔ l = lineOf i) ∧
  (∀ hwcs rxen, (AsmLine.init hwcs rxen).assemble = none ↔ ¬ (hwcs < 2 ∧ rxen < 2)) ∧
  AsmLine.setbaud.assemble = some .setbaud ∧
  (∀ cpol cpha, (AsmLine.setmode cpol cpha).assemble = none ↔ ¬ (cpol < 2 ∧ cpha < 2)) ∧
  (∀ data, (AsmLine.wrbyte data).assemble = none ↔ ¬ data < 256) ∧
  AsmLine.rdbyte.assemble = some .rdbyte ∧
  AsmLine.csassert.assemble = some .csassert ∧
  AsmLine.csdeassert.assemble = some .csdeassert ∧
  (∀ opc reg data, (AsmLine.transactW opc reg data).assemble = none ↔ ¬ (opc < 256 ∧ reg < 256 ∧ data < 256)) ∧
  (∀ opc reg, (AsmLine.transactR opc reg).assemble = none ↔ ¬ (opc < 256 ∧ reg < 256)) ∧
  (∀ bytes, (AsmLine.burst bytes).assemble = none ↔
    ¬ (1 ≤ bytes.length ∧ bytes.length ≤ 3 ∧ ∀ b ∈ bytes, b < 256)) ∧
  (∀ us, (AsmLine.delay us).assemble = none ↔ ¬ us < 2 ^ 24)

/-! ## Configuration commands (spec/40_spi_config.md) -/

/-- R100: INIT's encoding, its one fault, and its effect, which leaves everything else unchanged; at a command boundary the
select line is high after it. -/
def Obligations.InitConfiguresOrFaultsOpen : Prop :=
  ∀ (hwcs rxen : Bool) (s : State), s.status.fault = false →
    decode (0x4000000#30 ++ BitVec.ofBool rxen ++ BitVec.ofBool hwcs) = .command (.init hwcs rxen) ∧
    (s.status.csa = true → exec (.init hwcs rxen) s =
      .next (faulted s 4#4 (0x4000000#30 ++ BitVec.ofBool rxen ++ BitVec.ofBool hwcs))) ∧
    (s.status.csa = false → ∃ t, exec (.init hwcs rxen) s = .next t ∧ (s.fsm = .idle → csN t = .high) ∧ t =
      { s with
        config := { s.config with en := false, cfg := true, hwcs := hwcs, rxen := rxen }
        status := { s.status with rxfull := false, rovr := false } })

/-- R101: executing INIT twice leaves the same state and the same trace as executing it once. -/
def Obligations.InitIsIdempotent : Prop :=
  ∀ (hwcs rxen : Bool) (s : State), s.status.fault = false → s.status.csa = false →
    ∃ t, exec (.init hwcs rxen) s = .next t ∧ exec (.init hwcs rxen) t = .next t

/-- R102: SETBAUD's encoding, its faults in their order, and its effect, which leaves everything else unchanged. -/
def Obligations.SetbaudInstallsTheRoundedDivisor : Prop :=
  ∀ s : State, s.status.fault = false →
    decode 0x20000000#32 = .command .setbaud ∧
    (s.config.cfg = false → exec .setbaud s = .next (faulted s 2#4 0x20000000#32)) ∧
    (s.config.cfg = true → s.status.csa = true → exec .setbaud s = .next (faulted s 4#4 0x20000000#32)) ∧
    (s.config.cfg = true → s.status.csa = false → s.arg1 = 0#32 →
      exec .setbaud s = .next (faulted s 6#4 0x20000000#32)) ∧
    (s.config.cfg = true → s.status.csa = false → s.arg1 ≠ 0#32 →
      (computedDivisor s = 0 ∨ s.params.divMax < computedDivisor s) →
      exec .setbaud s = .next (faulted s 7#4 0x20000000#32)) ∧
    (s.config.cfg = true → s.status.csa = false → s.arg1 ≠ 0#32 → 1 ≤ computedDivisor s →
      computedDivisor s ≤ s.params.divMax →
      ∃ t, exec .setbaud s = .next t ∧ t = { s with div := t.div, config := { s.config with en := true } } ∧
        t.div.toNat = computedDivisor s)

/-- R103: SETBAUD's divisor is `f / b` rounded to the nearest integer, halves rounded up. -/
def Obligations.DivisorRoundsHalfUp : Prop :=
  ∀ f b : Word, b ≠ 0#32 →
    divisor f b = (2 * f.toNat + b.toNat) / (2 * b.toNat) ∧
    (divisor f b : Int) = ⌊(f.toNat : Rat) / (b.toNat : Rat) + 1 / 2⌋ ∧
    (∀ k : Nat, 2 * f.toNat = (2 * k + 1) * b.toNat → divisor f b = k + 1)

/-- R104: every divisor from 1 to DIV_MAX is installed by the SETBAUD that computes it, evenness playing no part; a SETBAUD
that does not fault leaves such a divisor; and DIV = 0 is the reset value. -/
def Obligations.LegalDivisorsAreOneToMax : Prop :=
  (∀ s : State, s.status.fault = false → s.config.cfg = true → s.status.csa = false → s.arg1 = 1#32 →
    1 ≤ s.arg0.toNat → s.arg0.toNat ≤ s.params.divMax →
    ∃ t, exec .setbaud s = .next t ∧ t.status.fault = false ∧ t.div = s.arg0) ∧
  (∀ s t : State, s.status.fault = false → exec .setbaud s = .next t → t.status.fault = false →
    1 ≤ t.div.toNat ∧ t.div.toNat ≤ t.params.divMax) ∧
  State.reset.div = 0#32

/-- R106: SETMODE's encoding, its faults in their order, and its effect, which leaves everything else unchanged; at a
command boundary the clock line idles at CPOL after it. -/
def Obligations.SetmodeInstallsTheMode : Prop :=
  ∀ (cpol cpha : Bool) (s : State), s.status.fault = false →
    let w : Word := 0xC000000#30 ++ BitVec.ofBool cpol ++ BitVec.ofBool cpha
    decode w = .command (.setmode cpol cpha) ∧
    (s.config.cfg = false → exec (.setmode cpol cpha) s = .next (faulted s 2#4 w)) ∧
    (s.config.cfg = true → s.status.csa = true → exec (.setmode cpol cpha) s = .next (faulted s 4#4 w)) ∧
    (s.config.cfg = true → s.status.csa = false → ∃ t, exec (.setmode cpol cpha) s = .next t ∧
      (s.fsm = .idle → sck t = Level.ofBit cpol) ∧
      t = { s with config := { s.config with cpol := cpol, cpha := cpha, sckpu := cpol, en := true } })

/-- R107: after SETMODE (1,1) the clock-line pull-up is enabled; after SETMODE with polarity 0 it is disabled. -/
def Obligations.PullUpFollowsPolarity : Prop :=
  ∀ (cpha : Bool) (s : State), s.status.fault = false → s.config.cfg = true → s.status.csa = false →
    (∃ t, exec (.setmode true true) s = .next t ∧ t.config.sckpu = true ∧ sckPu t = true) ∧
    (∃ t, exec (.setmode false cpha) s = .next t ∧ t.config.sckpu = false ∧ sckPu t = false)

/-- R59: DIV, CPOL, CPHA and SCKPU change only in SETBAUD or SETMODE, each of which leaves the peripheral enabled; HWCS and
RXEN change only in INIT, which leaves it disabled. -/
def Obligations.ConfigurationHasItsOwnWriters : Prop :=
  ∀ (i : Instr) (s t : State), exec i s = .next t →
    ((t.div ≠ s.div ∨ t.config.cpol ≠ s.config.cpol ∨ t.config.cpha ≠ s.config.cpha ∨ t.config.sckpu ≠ s.config.sckpu) →
      (i = .setbaud ∨ ∃ cpol cpha, i = .setmode cpol cpha) ∧ t.config.en = true) ∧
    ((t.config.hwcs ≠ s.config.hwcs ∨ t.config.rxen ≠ s.config.rxen) →
      (∃ hwcs rxen, i = .init hwcs rxen) ∧ t.config.en = false)

/-! ## Transfers (spec/41_spi_transfer.md) -/

/-- R125: WRBYTE's encoding, its faults in their order, and its effect: one frame, bracketed by the internal select logic
when HWCS = 1 (R130), its answer `m` captured (R127, R128), everything else unchanged. -/
def Obligations.WrbyteShiftsOneFrame : Prop :=
  ∀ (data : Byte) (s : State), s.status.fault = false →
    decode (0x400000#24 ++ data) = .command (.wrbyte data) ∧
    (s.config.cfg = false → exec (.wrbyte data) s = .next (faulted s 2#4 (0x400000#24 ++ data))) ∧
    (s.config.cfg = true → s.config.en = false →
      exec (.wrbyte data) s = .next (faulted s 8#4 (0x400000#24 ++ data))) ∧
    (s.config.cfg = true → s.config.en = true → s.div = 0#32 →
      exec (.wrbyte data) s = .next (faulted s 9#4 (0x400000#24 ++ data))) ∧
    (FrameReady s → ∃ (m : Byte) (t : State), exec (.wrbyte data) s = .next t ∧
      t.trace = s.trace ++
        (if s.config.hwcs then [.csFall, .frame data m s.config.cpol s.config.cpha s.div, .csRise]
         else [.frame data m s.config.cpol s.config.cpha s.div]) ∧
      t.txsr = data ∧
      (s.status.rxfull = false → t.rxbuf = m) ∧
      (s.status.rxfull = true → t.rxbuf = s.rxbuf ∨ t.rxbuf = m) ∧
      t.status.rxfull = true ∧ t.status.rovr = (s.status.rovr || s.status.rxfull) ∧ t.status.busy = false ∧
      t.result = s.result ∧ TransferFrame s t)

/-- R128: an overflowing frame sets ROVR, faults nothing and is otherwise normal, and both survivors are possible: whatever
the state, an environment that keeps the older byte and one that keeps the newer one both run; and the newer one is any byte
at all where RXEN = 1 and no slave model is given. That an environment decides by State.env.survivors and State.env.slave is
the model's choice (logs 6, 7). -/
def Obligations.OverflowKeepsEitherByte : Prop :=
  ∀ (data : Byte) (s : State), FrameReady s → s.status.rxfull = true →
    (∃ (m : Byte) (t : State), exec (.wrbyte data) s = .next t ∧ t.status.rovr = true ∧ t.status.rxfull = true ∧
      t.status.fault = false ∧ (t.rxbuf = s.rxbuf ∨ t.rxbuf = m) ∧
      (.frame data m s.config.cpol s.config.cpha s.div) ∈ t.trace) ∧
    (∃ t, exec (.wrbyte data) { s with env := { s.env with survivors := [.older] } } = .next t ∧ t.rxbuf = s.rxbuf) ∧
    (∃ (m : Byte) (t : State), exec (.wrbyte data) { s with env := { s.env with survivors := [.newer] } } = .next t ∧
      t.rxbuf = m ∧ t.trace = s.trace ++
        (if s.config.hwcs then [.csFall, .frame data m s.config.cpol s.config.cpha s.div, .csRise]
         else [.frame data m s.config.cpol s.config.cpha s.div])) ∧
    (∀ m : Byte, s.config.rxen = true → s.params.slaveGiven = false →
      ∃ t, exec (.wrbyte data) { s with env := { s.env with slave := [m], survivors := [.newer] } } = .next t ∧
        t.rxbuf = m)

/-- The byte a WRBYTE captures with RXFULL = 0 (R15, R129). With RXEN = 1 it is what the slave drives: the value of
`SlaveByte` at the trace and the byte sent where that function is given, whatever the environment has decided; and where it
is not, any byte at all, for some environment. With RXEN = 0 it does not depend on the slave. That decided bytes are
State.env.slave, and that Params says whether the function is given, are the model's choices (log 6). -/
def Obligations.ReceivedByteIsTheSlaves : Prop :=
  ∀ (data m : Byte) (rest : List Byte) (s : State), FrameReady s → s.status.rxfull = false →
    (s.config.rxen = true → s.params.slaveGiven = true →
      ∃ t, exec (.wrbyte data) { s with env := { s.env with slave := m :: rest } } = .next t ∧
        t.rxbuf = Config.slaveByte s.trace data) ∧
    (s.config.rxen = true → s.params.slaveGiven = false →
      ∃ t, exec (.wrbyte data) { s with env := { s.env with slave := m :: rest } } = .next t ∧ t.rxbuf = m ∧
        t.env.slave = rest) ∧
    (s.config.rxen = false →
      ∃ t u, exec (.wrbyte data) s = .next t ∧
        exec (.wrbyte data) { s with env := { s.env with slave := m :: rest } } = .next u ∧
        t.rxbuf = u.rxbuf ∧ t.trace = u.trace)

/-- R126: RDBYTE's encoding, its faults in their order, and its effect, which leaves everything else unchanged. -/
def Obligations.RdbyteDeliversTheByte : Prop :=
  ∀ s : State, s.status.fault = false →
    decode 0x50000000#32 = .command .rdbyte ∧
    (s.config.cfg = false → exec .rdbyte s = .next (faulted s 2#4 0x50000000#32)) ∧
    (s.config.cfg = true → s.status.rxfull = false → exec .rdbyte s = .next (faulted s 10#4 0x50000000#32)) ∧
    (s.config.cfg = true → s.status.rxfull = true → exec .rdbyte s = .next
      { s with result := s.rxbuf, status := { s.status with rxfull := false } })

/-- R27: only RDBYTE and TRANSACT.R write RESULT, and its bits 31:8 read 0. -/
def Obligations.ResultHasTwoWriters : Prop :=
  (∀ (i : Instr) (s t : State), exec i s = .next t → t.result ≠ s.result →
    i = .rdbyte ∨ ∃ opc reg, i = .transactR opc reg) ∧
  (∀ s : State, ∃ v, s.readReg .result = some v ∧ v.extractLsb' 8 24 = 0#24 ∧ v.extractLsb' 0 8 = s.result) ∧
  State.reset.readReg .result = some 0x00000000#32

/-- The sixteen edges of a frame with CPHA = 0, by the convention the spec supplies in the sentence "Bit-level frame,
CPHA = 0" and marks as not in its source (log 14). -/
def Obligations.FrameEdgesCapturingOnLeadingEdge : Prop :=
  ∀ (tx miso : Byte) (cpol : Bool),
    (shiftingStart tx miso cpol false).sck = cpol ∧
    (shiftingStart tx miso cpol false).mosi = some (tx.getLsbD 7) ∧
    (frameBits tx miso cpol false).edges.length = 16 ∧
    (∀ i : Nat, i < 8 →
      (frameBits tx miso cpol false).edges[2 * i]? =
        some { level := !cpol
               sampled := some (some (tx.getLsbD (7 - i)), miso.getLsbD (7 - i))
               driven := none } ∧
      (frameBits tx miso cpol false).edges[2 * i + 1]? =
        some { level := cpol
               sampled := none
               driven := if i = 7 then none else some (tx.getLsbD (6 - i)) }) ∧
    (frameBits tx miso cpol false).sck = cpol ∧
    (frameBits tx miso cpol false).rx = miso

/-- The sixteen edges of a frame with CPHA = 1, by the convention the spec supplies in the sentence "Bit-level frame,
CPHA = 1" and marks as partly not in its source (log 14). -/
def Obligations.FrameEdgesCapturingOnTrailingEdge : Prop :=
  ∀ (tx miso : Byte) (cpol : Bool),
    (shiftingStart tx miso cpol true).sck = cpol ∧
    (frameBits tx miso cpol true).edges.length = 16 ∧
    (∀ i : Nat, i < 8 →
      (frameBits tx miso cpol true).edges[2 * i]? =
        some { level := !cpol, sampled := none, driven := some (tx.getLsbD (7 - i)) } ∧
      (frameBits tx miso cpol true).edges[2 * i + 1]? =
        some { level := cpol
               sampled := some (some (tx.getLsbD (7 - i)), miso.getLsbD (7 - i))
               driven := none }) ∧
    (frameBits tx miso cpol true).sck = cpol ∧
    (frameBits tx miso cpol true).rx = miso

/-- The transceiver's states (R132) make the edges of the frame: seventeen states after WRBYTE's TX_LOAD is entered, the
sequencer is in TX_DONE with exactly the edges of `frameBits`, BUSY = 1 and TXSR loaded. What the states carry is the
model's choice (log 11). -/
def Obligations.TransceiverStatesMakeTheEdges : Prop :=
  ∀ (data : Byte) (s : State),
    (({ s with fsm := entryState (.wrbyte data) } : State).seqRun 17).fsm =
      .txDone (frameBits data (s.misoByte data) s.config.cpol s.config.cpha) .command ∧
    (({ s with fsm := entryState (.wrbyte data) } : State).seqRun 17).status.busy = true ∧
    (({ s with fsm := entryState (.wrbyte data) } : State).seqRun 17).txsr = data

/-- The event-level commands are the summary of the sequencer's states (R120, R132, R146, R163): run from its first
sequencer state, every command that shifts frames reaches exactly the state its meaning gives. What the states carry is the
model's choice (log 11). -/
def Obligations.SequencerRefinesTheCommands : Prop :=
  ∀ (i : Instr) (s t : State), s.fsm = .idle → entryState i ≠ .idle → s.status.fault = false →
    exec i s = .next t → t.status.fault = false →
    ({ s with fsm := entryState i } : State).seqRun (seqLength i) = t

/-! ## Chip select (spec/42_chip_select.md) -/

/-- R141: CSASSERT's encoding, its faults in their order, and its effect, which leaves everything else unchanged. -/
def Obligations.CsassertOpensATransaction : Prop :=
  ∀ s : State, s.status.fault = false →
    decode 0x60000000#32 = .command .csassert ∧
    (s.config.cfg = false → exec .csassert s = .next (faulted s 2#4 0x60000000#32)) ∧
    (s.config.cfg = true → s.config.hwcs = true → exec .csassert s = .next (faulted s 3#4 0x60000000#32)) ∧
    (s.config.cfg = true → s.config.hwcs = false → s.status.csa = true →
      exec .csassert s = .next (faulted s 4#4 0x60000000#32)) ∧
    (s.config.cfg = true → s.config.hwcs = false → s.status.csa = false →
      ∃ t, exec .csassert s = .next t ∧ csN t = .low ∧ t =
        { s with
          status := { s.status with csa := true }
          trace := s.trace ++ [.csFall, .wait .css s.params.tCssCyc] })

/-- R142: CSDEASSERT's encoding, its faults in their order, and its effect, which leaves everything else unchanged; at a
command boundary the select line is high after it. -/
def Obligations.CsdeassertClosesTheTransaction : Prop :=
  ∀ s : State, s.status.fault = false →
    decode 0x70000000#32 = .command .csdeassert ∧
    (s.config.cfg = false → exec .csdeassert s = .next (faulted s 2#4 0x70000000#32)) ∧
    (s.config.cfg = true → s.config.hwcs = true → exec .csdeassert s = .next (faulted s 3#4 0x70000000#32)) ∧
    (s.config.cfg = true → s.config.hwcs = false → s.status.csa = false →
      exec .csdeassert s = .next (faulted s 5#4 0x70000000#32)) ∧
    (s.config.cfg = true → s.config.hwcs = false → s.status.csa = true →
      ∃ t, exec .csdeassert s = .next t ∧ (s.fsm = .idle → csN t = .high) ∧ t =
        { s with status := { s.status with csa := false }, trace := s.trace ++ [.csRise] })

/-- R140: while a software transaction is open, CSASSERT, BURST, TRANSACT, INIT, SETBAUD and SETMODE fault CS_OPEN; while
none is open, CSDEASSERT faults CS_NOT_OPEN. -/
def Obligations.ChipSelectContractIsEnforced : Prop :=
  ∀ (i : Instr) (s : State), s.status.fault = false → s.config.cfg = true → s.config.hwcs = false →
    (s.status.csa = true →
      (i = .csassert ∨ hasOwnBracket i = true ∨ (∃ hwcs rxen, i = .init hwcs rxen) ∨ i = .setbaud ∨
        ∃ cpol cpha, i = .setmode cpol cpha) →
      exec i s = .next (faulted s 4#4 (encode i))) ∧
    (s.status.csa = false → exec .csdeassert s = .next (faulted s 5#4 0x70000000#32))

/-- R145: BURST's encodings, its faults in their order, and its effect: the bytes inside one select assertion with no settle
waits, every answer drained, RXBUF left with the last answer (with the older byte or the answer where the one byte of a
BURST1 overflowed), everything else unchanged. -/
def Obligations.BurstSendsItsBytesUnderOneSelect : Prop :=
  ∀ (b0 b1 b2 : Byte) (i : Instr) (w : Word) (bytes : List Byte) (s : State),
    (i = .burst1 b0 ∧ w = 0x94#8 ++ b0 ++ 0#16 ∧ bytes = [b0] ∨
     i = .burst2 b0 b1 ∧ w = 0x98#8 ++ b0 ++ b1 ++ 0#8 ∧ bytes = [b0, b1] ∨
     i = .burst3 b0 b1 b2 ∧ w = 0x9C#8 ++ b0 ++ b1 ++ b2 ∧ bytes = [b0, b1, b2]) →
    s.status.fault = false →
    decode w = .command i ∧
    (s.config.cfg = false → exec i s = .next (faulted s 2#4 w)) ∧
    (s.config.cfg = true → s.config.hwcs = true → exec i s = .next (faulted s 3#4 w)) ∧
    (s.config.cfg = true → s.config.hwcs = false → s.status.csa = true → exec i s = .next (faulted s 4#4 w)) ∧
    (s.config.cfg = true → s.config.hwcs = false → s.status.csa = false → s.config.en = false →
      exec i s = .next (faulted s 8#4 w)) ∧
    (s.config.cfg = true → s.config.hwcs = false → s.status.csa = false → s.config.en = true → s.div = 0#32 →
      exec i s = .next (faulted s 9#4 w)) ∧
    (TransferReady s → ∃ (ms : List Byte) (t : State), ms.length = bytes.length ∧ exec i s = .next t ∧
      t.trace = s.trace ++ [.csFall, .wait .css s.params.tCssCyc] ++ framesOf s bytes ms ++ [.csRise] ∧
      bytes.getLast? = some t.txsr ∧
      (s.status.rxfull = false ∨ 2 ≤ bytes.length → ms.getLast? = some t.rxbuf) ∧
      (s.status.rxfull = true → bytes.length = 1 → t.rxbuf = s.rxbuf ∨ ms.getLast? = some t.rxbuf) ∧
      t.status.rxfull = false ∧ t.status.rovr = (s.status.rovr || s.status.rxfull) ∧ t.status.busy = false ∧
      t.result = s.result ∧ (s.fsm = .idle → csN t = .high) ∧ TransferFrame s t)

/-- R152: DELAY's encoding and its effect, in any state that has not faulted: its event, and no register changes. -/
def Obligations.DelayOnlyEmitsItsWait : Prop :=
  ∀ (us : BitVec 24) (s : State), s.status.fault = false →
    decode (0xA0#8 ++ us) = .command (.delay us) ∧
    exec (.delay us) s = .next { s with trace := s.trace ++ [.wait .host us.toNat] }

/-- R149, R150, R165: each BURST or TRANSACT that does not fault adds one select bracket with all its frames inside it, so
between two of them the select line rises before it falls again. -/
def Obligations.TransfersAreWholeSelectBrackets : Prop :=
  ∀ (i : Instr) (s t : State), hasOwnBracket i = true → s.status.fault = false → exec i s = .next t →
    t.status.fault = false →
    ∃ events, t.trace = s.trace ++ events ∧ Bracketed (bytesSent i).length events

/-! ## Register access (spec/43_register_access.md) -/

/-- R161: TRANSACT.W's encoding, its faults in their order, and its effect: the seven steps with three frames, RXBUF left
with the last answer, nothing delivered, everything else unchanged. -/
def Obligations.TransactWriteSendsThreeBytes : Prop :=
  ∀ (opc reg data : Byte) (s : State), s.status.fault = false →
    let i : Instr := .transactW opc reg data
    let w : Word := 0x81#8 ++ opc ++ reg ++ data
    decode w = .command i ∧
    (s.config.cfg = false → exec i s = .next (faulted s 2#4 w)) ∧
    (s.config.cfg = true → s.config.hwcs = true → exec i s = .next (faulted s 3#4 w)) ∧
    (s.config.cfg = true → s.config.hwcs = false → s.status.csa = true → exec i s = .next (faulted s 4#4 w)) ∧
    (s.config.cfg = true → s.config.hwcs = false → s.status.csa = false → s.config.en = false →
      exec i s = .next (faulted s 8#4 w)) ∧
    (s.config.cfg = true → s.config.hwcs = false → s.status.csa = false → s.config.en = true → s.div = 0#32 →
      exec i s = .next (faulted s 9#4 w)) ∧
    (TransferReady s → ∃ (m0 m1 m2 : Byte) (t : State), exec i s = .next t ∧
      t.trace = s.trace ++ [.wait .settle s.params.tSettleUs, .csFall, .wait .css s.params.tCssCyc] ++
        framesOf s [opc, reg, data] [m0, m1, m2] ++ [.csRise, .wait .settle s.params.tSettleUs] ∧
      t.txsr = data ∧ t.rxbuf = m2 ∧ t.result = s.result ∧
      t.status.rxfull = false ∧ t.status.rovr = (s.status.rovr || s.status.rxfull) ∧ t.status.busy = false ∧
      (s.fsm = .idle → csN t = .high) ∧ TransferFrame s t)

/-- R162: TRANSACT.R's encoding, its faults in their order, and its effect: the seven steps with three frames, the third
sending 0x00, and RESULT the third byte received whatever the first two are; everything else unchanged; and its word with
nonzero bits 7:0 is illegal. -/
def Obligations.TransactReadDeliversTheThirdByte : Prop :=
  ∀ (opc reg : Byte) (s : State), s.status.fault = false →
    let i : Instr := .transactR opc reg
    let w : Word := 0x80#8 ++ opc ++ reg ++ 0#8
    decode w = .command i ∧
    (∀ low : Byte, low ≠ 0#8 → ∃ why, decode (0x80#8 ++ opc ++ reg ++ low) = .illegal why) ∧
    (s.config.cfg = false → exec i s = .next (faulted s 2#4 w)) ∧
    (s.config.cfg = true → s.config.hwcs = true → exec i s = .next (faulted s 3#4 w)) ∧
    (s.config.cfg = true → s.config.hwcs = false → s.status.csa = true → exec i s = .next (faulted s 4#4 w)) ∧
    (s.config.cfg = true → s.config.hwcs = false → s.status.csa = false → s.config.en = false →
      exec i s = .next (faulted s 8#4 w)) ∧
    (s.config.cfg = true → s.config.hwcs = false → s.status.csa = false → s.config.en = true → s.div = 0#32 →
      exec i s = .next (faulted s 9#4 w)) ∧
    (TransferReady s → ∃ (m0 m1 m2 : Byte) (t : State), exec i s = .next t ∧
      t.trace = s.trace ++ [.wait .settle s.params.tSettleUs, .csFall, .wait .css s.params.tCssCyc] ++
        framesOf s [opc, reg, 0#8] [m0, m1, m2] ++ [.csRise, .wait .settle s.params.tSettleUs] ∧
      t.txsr = 0#8 ∧ t.result = m2 ∧ t.rxbuf = m2 ∧
      t.status.rxfull = false ∧ t.status.rovr = (s.status.rovr || s.status.rxfull) ∧ t.status.busy = false ∧
      (s.fsm = .idle → csN t = .high) ∧ TransferFrame s t)

/-- A read against a slave that returns a given byte sequence (spec/95_test_vectors.md S7, for all bytes): the frames hold
the three bytes in order and RESULT is the third. The sequence is what the environment has decided where no slave model is
given, and else the value of `SlaveByte` at the trace so far and the byte sent, frame by frame (R15). That decided bytes are
State.env.slave, and that Params says whether the function is given, are the model's choices (log 6). -/
def Obligations.ReadAgainstAKnownSlave : Prop :=
  ∀ (opc reg m0 m1 m2 : Byte) (s : State), TransferReady s → s.config.rxen = true →
    let start := s.trace ++ [.wait .settle s.params.tSettleUs, .csFall, .wait .css s.params.tCssCyc]
    (s.params.slaveGiven = false ∧ (∃ rest, s.env.slave = m0 :: m1 :: m2 :: rest)) ∨
      (s.params.slaveGiven = true ∧ m0 = Config.slaveByte start opc ∧
        m1 = Config.slaveByte (start ++ framesOf s [opc] [m0]) reg ∧
        m2 = Config.slaveByte (start ++ framesOf s [opc, reg] [m0, m1]) 0#8) →
    ∃ t, exec (.transactR opc reg) s = .next t ∧ t.readReg .result = some (0#24 ++ m2) ∧
      t.env.slave = s.env.slave.drop 3 ∧
      t.trace = start ++ framesOf s [opc, reg, 0#8] [m0, m1, m2] ++ [.csRise, .wait .settle s.params.tSettleUs]

/-- R164: a TRANSACT leaves nothing of its discarded bytes to the host: whatever the environment answers and whatever RXBUF
and TXSR held, a TRANSACT.W leaves the same host-visible registers and a TRANSACT.R the same ones but RESULT; and an RDBYTE
after either faults RX_EMPTY. -/
def Obligations.DiscardedBytesAreNeverSurfaced : Prop :=
  ∀ (i : Instr) (s s' t t' : State), ((∃ opc reg data, i = .transactW opc reg data) ∨ ∃ opc reg, i = .transactR opc reg) →
    TransferReady s → s' = { s with env := s'.env, rxbuf := s'.rxbuf, txsr := s'.txsr } →
    exec i s = .next t → exec i s' = .next t' →
    ((∃ opc reg data, i = .transactW opc reg data) → hostVisible t = hostVisible t') ∧
    (∀ r : Reg, r ≠ .result → t.readReg r = t'.readReg r) ∧
    exec .rdbyte t = .next (faulted t 10#4 0x50000000#32)

/-- What the environment answers reaches the host through RESULT alone: over one command, runs that differ in nothing but
the environment agree on every other register, and on RESULT too unless the command is TRANSACT.R (R27, R129, R164). -/
def Obligations.EnvironmentReachesOnlyResult : Prop :=
  ∀ (i : Instr) (s t t' : State) (e : Env), exec i s = .next t → exec i { s with env := e } = .next t' →
    (∀ r : Reg, r ≠ .result → t.readReg r = t'.readReg r) ∧
    ((∀ opc reg, i ≠ .transactR opc reg) → hostVisible t = hostVisible t')

/-- Only TRANSACT inserts the register-access settle waits, one before its bracket and one after it (R167). -/
def Obligations.OnlyTransactSettles : Prop :=
  ∀ (i : Instr) (s t : State), s.status.fault = false → exec i s = .next t → t.status.fault = false →
    ∃ events, t.trace = s.trace ++ events ∧
      (((∃ opc reg data, i = .transactW opc reg data) ∨ ∃ opc reg, i = .transactR opc reg) →
        events.filter isSettle = [.wait .settle s.params.tSettleUs, .wait .settle s.params.tSettleUs] ∧
        events.head? = some (.wait .settle s.params.tSettleUs) ∧
        events.getLast? = some (.wait .settle s.params.tSettleUs)) ∧
      (((∀ opc reg data, i ≠ .transactW opc reg data) ∧ ∀ opc reg, i ≠ .transactR opc reg) →
        events.filter isSettle = [])

/-! ## Faults (spec/60_exceptions.md) -/

/-- R183, over all words and states, with the rows of R182 as `faultTable`: a faulted block ignores the word; else a word
that does not decode reports ILLEGAL; else its command reports exactly the first row of the fault table it raises whose
condition holds, the state otherwise unchanged (R184); and where no row applies it completes without a fault. -/
def Obligations.FaultTableIsExact : Prop :=
  ∀ (w : Word) (s : State),
    (s.status.fault = true → execute w s = .next s) ∧
    (s.status.fault = false → (∃ why, decode w = .illegal why) → execute w s = .next (faulted s 1#4 w)) ∧
    (∀ i code, s.status.fault = false → decode w = .command i → reportedCode i s = some code →
      execute w s = .next (faulted s code w)) ∧
    (∀ i, s.status.fault = false → decode w = .command i → reportedCode i s = none →
      ∃ t, execute w s = .next t ∧ t.status.fault = false ∧ t.status.fcode = s.status.fcode ∧ t.fcmd = s.fcmd)

/-- R180: a host write of a word to CMD runs Execute: nothing while FAULT = 1, else the fault ILLEGAL for a word that does
not decode, else the decoded command. -/
def Obligations.CommandWriteExecutes : Prop :=
  ∀ (w : Word) (rest : List HostStep) (s : State), NextCommand s w rest →
    (s.status.fault = true → step s = .next { s with host := rest, replies := s.replies ++ [.done] }) ∧
    (s.status.fault = false → (∃ why, decode w = .illegal why) →
      step s = .next { faulted s 1#4 w with host := rest, replies := s.replies ++ [.done] }) ∧
    (∀ i t, s.status.fault = false → decode w = .command i → exec i { s with host := rest } = .next t →
      step s = .next { t with replies := s.replies ++ [.done] })

/-- A step runs the decoded command: at a command boundary, with a CMD write next whose word decodes to `i`, the step is
exec of `i` on the state with that write taken from the host's list, and then the host's write completes. -/
def Obligations.StepRunsTheDecodedCommand : Prop :=
  ∀ (w : Word) (i : Instr) (rest : List HostStep) (s : State), NextCommand s w rest → decode w = .command i →
    (∀ t, exec i { s with host := rest } = .next t → step s = .next { t with replies := t.replies ++ [.done] }) ∧
    (∀ r, exec i { s with host := rest } = .fault r → step s = .fault r) ∧
    (∀ r, exec i { s with host := rest } = .refused r → step s = .refused r)

/-- R185: while FAULT = 1 every CMD write is ignored and completes, ARG0 and ARG1 stay writable, every readable register
stays readable, and until reset FAULT, FCODE and FCMD keep their values. -/
def Obligations.FaultedBlockIgnoresCommands : Prop :=
  ∀ (rest : List HostStep) (s : State), AtBoundary s → s.status.fault = true →
    (∀ w, s.host = .write 0 4 w :: rest → step s = .next { s with host := rest, replies := s.replies ++ [.done] }) ∧
    (∀ v, s.host = .write 4 4 v :: rest →
      step s = .next { s with arg0 := v, host := rest, replies := s.replies ++ [.done] }) ∧
    (∀ v, s.host = .write 8 4 v :: rest →
      step s = .next { s with arg1 := v, host := rest, replies := s.replies ++ [.done] }) ∧
    (∀ r : Reg, r ≠ .cmd → s.host = .read (offsetOf r) 4 :: rest → ∃ v, s.readReg r = some v ∧
      step s = .next { s with host := rest, replies := s.replies ++ [.data v] }) ∧
    (∀ t, s.host.head? ≠ some .rstLow → step s = .next t → t.status = s.status ∧ t.fcmd = s.fcmd)

/-- R190: the only exit from FAULT = 1 is reset, and there is no second fault: a step from a command boundary that is not
the reset pin going low keeps STATUS, FCMD, RESULT, CONFIG, DIV and the trace of a faulted block, and the reset pin going low
leaves FAULT = 0. -/
def Obligations.OnlyResetLeavesAFault : Prop :=
  ∀ s t : State, s.fsm = .idle → s.status.fault = true → step s = .next t →
    (s.host.head? ≠ some .rstLow → t.status = s.status ∧ t.fcmd = s.fcmd ∧ t.result = s.result ∧
      t.config = s.config ∧ t.div = s.div ∧ t.trace = s.trace) ∧
    (s.host.head? = some .rstLow → t.status.fault = false)

/-- Every command completes: exec answers a next state for every command in every state (R131, R218). It rests on a choice
of the model that errs toward proving (log 16): the hang of hardware that fails to clock out data is left out, as the spec
leaves it out (U9), and every frame completes. -/
def Obligations.EveryCommandCompletes : Prop :=
  ∀ (i : Instr) (s : State), ∃ t, exec i s = .next t

/-- What no command touches (R20, R25, R26): the operand registers, the parameters, the pins, the host's side, and the state
of the sequencer. -/
def Obligations.CommandsKeepOperandsAndHost : Prop :=
  ∀ (i : Instr) (s t : State), exec i s = .next t →
    t.arg0 = s.arg0 ∧ t.arg1 = s.arg1 ∧ t.params = s.params ∧ t.rstN = s.rstN ∧ t.blkClk = s.blkClk ∧
      t.host = s.host ∧ t.replies = s.replies ∧ t.fsm = s.fsm

/-! ## The host window (spec/10_state.md, spec/20_memory.md) -/

/-- R28: each bit of the STATUS word, for every status. -/
def Obligations.StatusWordBits : Prop :=
  ∀ st : Status,
    (statusWord st).getLsbD 0 = st.busy ∧ (statusWord st).getLsbD 1 = st.rxfull ∧
    (statusWord st).getLsbD 2 = st.rovr ∧ (statusWord st).getLsbD 3 = st.csa ∧
    (statusWord st).getLsbD 4 = st.fault ∧ (statusWord st).extractLsb' 5 3 = 0#3 ∧
    (statusWord st).extractLsb' 8 4 = st.fcode ∧ (statusWord st).extractLsb' 12 20 = 0#20

/-- R35: each bit of the CONFIG word, for every configuration. -/
def Obligations.ConfigWordBits : Prop :=
  ∀ c : ConfigReg,
    (configWord c).getLsbD 0 = c.cfg ∧ (configWord c).getLsbD 1 = c.en ∧ (configWord c).getLsbD 2 = c.hwcs ∧
    (configWord c).getLsbD 3 = c.rxen ∧ (configWord c).getLsbD 4 = c.cpha ∧ (configWord c).getLsbD 5 = c.cpol ∧
    (configWord c).getLsbD 6 = c.sckpu ∧ (configWord c).extractLsb' 7 25 = 0#25

/-- R24, R61, R68: a read of each readable register at its offset returns its value and has no other effect; a write of ARG0
or ARG1 replaces all its bits and has no other effect. -/
def Obligations.WindowReadsAndArgWrites : Prop :=
  ∀ (v : Word) (rest : List HostStep) (s : State), AtBoundary s →
    (s.host = .read 0x04 4 :: rest → step s = .next { s with host := rest, replies := s.replies ++ [.data s.arg0] }) ∧
    (s.host = .read 0x08 4 :: rest → step s = .next { s with host := rest, replies := s.replies ++ [.data s.arg1] }) ∧
    (s.host = .read 0x0C 4 :: rest →
      step s = .next { s with host := rest, replies := s.replies ++ [.data (0#24 ++ s.result)] }) ∧
    (s.host = .read 0x10 4 :: rest →
      step s = .next { s with host := rest, replies := s.replies ++ [.data (statusWord s.status)] }) ∧
    (s.host = .read 0x14 4 :: rest →
      step s = .next { s with host := rest, replies := s.replies ++ [.data (configWord s.config)] }) ∧
    (s.host = .read 0x18 4 :: rest → step s = .next { s with host := rest, replies := s.replies ++ [.data s.div] }) ∧
    (s.host = .read 0x1C 4 :: rest → step s = .next { s with host := rest, replies := s.replies ++ [.data s.fcmd] }) ∧
    (s.host = .write 0x04 4 v :: rest →
      step s = .next { s with arg0 := v, host := rest, replies := s.replies ++ [.done] }) ∧
    (s.host = .write 0x08 4 v :: rest →
      step s = .next { s with arg1 := v, host := rest, replies := s.replies ++ [.done] })

/-- R63: while the block takes accesses, the refused ones are exactly those of the wrong width, misaligned, outside the
window, in a direction the register does not have; every other access completes. -/
def Obligations.RefusedAccessesAreExactly : Prop :=
  ∀ (off : Int) (width : Nat) (v : Word) (rest : List HostStep) (s : State), AtBoundary s →
    (s.host = .read off width :: rest →
      ((∃ why, step s = .refused why) ↔ (width ≠ 4 ∨ off % 4 ≠ 0 ∨ off < 0 ∨ 0x1C < off ∨ off = 0)) ∧
      ((∃ why, step s = .refused why) ∨ ∃ t, step s = .next t)) ∧
    (s.host = .write off width v :: rest →
      ((∃ why, step s = .refused why) ↔ (width ≠ 4 ∨ off % 4 ≠ 0 ∨ off < 0 ∨ 0x08 < off)) ∧
      ((∃ why, step s = .refused why) ∨ ∃ t, step s = .next t))

/-- R77: an access while the clock gate is closed or has not settled is refused; an access while reset is held is refused
too (R210). The refusals' names, and which is given when both hold, are the model's choice (log 9). -/
def Obligations.GatedAccessesAreRefused : Prop :=
  ∀ (h : HostStep) (rest : List HostStep) (s : State), s.fsm = .idle → s.host = h :: rest →
    ((∃ off width, h = .read off width) ∨ ∃ off width v, h = .write off width v) →
    (s.blkClk ≠ .settled → ∃ why, step s = .refused why) ∧
    (s.rstN = false → ∃ why, step s = .refused why) ∧
    (s.rstN = true → s.blkClk ≠ .settled → step s = .refused .clockGated)

/-- R196: while the clock gate is closed, or has not settled, every register keeps its value: a step that is not the reset
pin going low changes nothing of the block but its two input pins. And how the gate moves, at a command boundary, a faulted
block or not, every register kept: closing closes it, opening a closed gate starts its settling, and the settle time passes
only while it is open. The three values of the gate and the last three moves are the model's choice (logs 4, 21), which R214
leaves to the platform. -/
def Obligations.ClockGateKeepsTheRegisters : Prop :=
  ∀ s : State, s.fsm = .idle →
    (∀ t, s.blkClk ≠ .settled → s.host.head? ≠ some .rstLow → step s = .next t →
      t = { s with blkClk := t.blkClk, rstN := t.rstN, host := t.host }) ∧
    (∀ rest, s.host = .gateClose :: rest → step s = .next { s with blkClk := .closed, host := rest }) ∧
    (∀ rest, s.host = .gateOpen :: rest → step s = .next
      { s with blkClk := if s.blkClk = .closed then .settling else s.blkClk, host := rest }) ∧
    (∀ rest, s.host = .gateSettled :: rest → step s = .next
      { s with blkClk := if s.blkClk = .closed then .closed else .settled, host := rest })

/-- R72: in the middle of a command a host access is stalled: the step takes nothing from the host and answers nothing. -/
def Obligations.HostIsStalledInsideACommand : Prop :=
  ∀ (h : HostStep) (rest : List HostStep) (s : State), s.fsm ≠ .idle → s.host = h :: rest →
    ((∃ off width, h = .read off width) ∨ ∃ off width v, h = .write off width v) →
    ∃ t, step s = .next t ∧ t.host = s.host ∧ t.replies = s.replies ∧ t.arg0 = s.arg0 ∧ t.arg1 = s.arg1

/-- A reset or clock-gate change in the middle of a command has no move (R211, R234): the model is stuck under the name
pinChangeMidCommand (log 10). -/
def Obligations.PinChangeInsideACommandIsStuck : Prop :=
  ∀ (h : HostStep) (rest : List HostStep) (s : State), s.fsm ≠ .idle → s.host = h :: rest →
    (h = .rstLow ∨ h = .rstHigh ∨ h = .gateClose ∨ h = .gateOpen) → step s = .fault .pinChangeMidCommand

/-! ## Reset and the whole machine (spec/70_reset_and_hazards.md) -/

/-- R56: the reset value of every state element. -/
def Obligations.ResetValues : Prop :=
  let s := State.reset
  s.arg0 = 0#32 ∧ s.arg1 = 0#32 ∧ s.readReg .result = some 0#32 ∧ s.readReg .status = some 0#32 ∧
    s.readReg .config = some 0#32 ∧ s.div = 0#32 ∧ s.fcmd = 0#32 ∧ s.rxbuf = 0#8 ∧ s.txsr = 0#8 ∧ s.fsm = .idle ∧
    s.trace = [] ∧ csN s = .hiZ ∧ sck s = .hiZ ∧ mosi s = .hiZ ∧ sckPu s = false ∧ portClkEn s = false

/-- R210: `rst_n` going low at a command boundary gives every state element its reset value and empties the trace, and no
access is taken until it goes high again; then the block takes accesses. -/
def Obligations.ResetRestoresEveryElement : Prop :=
  ∀ (rest : List HostStep) (s : State), s.fsm = .idle →
    (s.host = .rstLow :: rest → ∃ t, step s = .next t ∧ t.rstN = false ∧ t.host = rest ∧ hostVisible t =
        [some 0#32, some 0#32, some 0#32, some 0#32, some 0#32, some 0#32, some 0#32] ∧
      t.rxbuf = 0#8 ∧ t.txsr = 0#8 ∧ t.fsm = .idle ∧ t.trace = [] ∧ csN t = .hiZ ∧ sck t = .hiZ ∧ mosi t = .hiZ ∧
      sckPu t = false ∧ portClkEn t = false) ∧
    (s.host = .rstHigh :: rest → step s = .next { s with rstN := true, host := rest })

/-- R51, R52: the levels of the select and clock lines at a command boundary, with R41 and R50's two pad controls; and R53's
data line with CFG = 0. That a line pulled high is a level of its own is the model's choice (log 20). -/
def Obligations.LineLevelsAtABoundary : Prop :=
  ∀ s : State, s.fsm = .idle →
    (s.config.cfg = false → csN s = .hiZ ∧ sck s = .hiZ ∧ mosi s = .hiZ) ∧
    (s.config.cfg = true → s.config.hwcs = false → s.status.csa = true → csN s = .low) ∧
    (s.config.cfg = true → s.config.hwcs = false → s.status.csa = false → csN s = .high) ∧
    (s.config.cfg = true → s.config.hwcs = true → csN s = .high) ∧
    (s.config.cfg = true → s.config.en = true → s.config.cpol = true → sck s = .high) ∧
    (s.config.cfg = true → s.config.en = true → s.config.cpol = false → sck s = .low) ∧
    (s.config.cfg = true → s.config.en = false → s.config.sckpu = true → sck s = .pulledHigh) ∧
    (s.config.cfg = true → s.config.en = false → s.config.sckpu = false → sck s = .hiZ) ∧
    sckPu s = s.config.sckpu ∧ portClkEn s = s.config.cfg

/-- The boundary invariant of R55 holds at reset. -/
def Obligations.BoundaryInvAtReset : Prop := BoundaryInv State.reset

/-- The boundary invariant of R55 is kept by every step. -/
def Obligations.BoundaryInvIsKept : Prop :=
  ∀ s t : State, BoundaryInv s → step s = .next t → BoundaryInv t

/-- The configuration invariant (R30, R36, R37, R41, R42) holds at reset, and every step from a command boundary keeps
it. -/
def Obligations.ModeInvIsKept : Prop :=
  ModeInv State.reset ∧ ∀ s t : State, s.fsm = .idle → ModeInv s → step s = .next t → ModeInv t

/-- The falls and rises in the trace alternate, and the last one gives the level of the select line at every command
boundary with CFG = 1 (R44, R51): they agree with CSA at reset, every step keeps that, and with CSA they agree with
`cs_n_o`. -/
def Obligations.TraceRecordsTheSelectLine : Prop :=
  SelectInv State.reset ∧
  (∀ s t : State, BoundaryInv s → SelectInv s → step s = .next t → SelectInv t) ∧
  (∀ s : State, BoundaryInv s → SelectInv s → s.config.cfg = true →
    (csN s = .low ∧ selectAfter s.trace.reverse = some true) ∨
      (csN s = .high ∧ selectAfter s.trace.reverse = some false))

/-- Inside a command too every change of the select line is recorded, and nothing else is as one (R51): each state of the
sequencer adds a `CsFall` exactly when it takes `cs_n_o` from high to low, a `CsRise` exactly when it takes it from low to
high, and no other select event. What rules out states no command is in, `SequencerSelectInv`, holds when a command that
shifts frames starts and is kept by every state. The states are the model's reading of R132, R146 and R163 (log 11). -/
def Obligations.SelectChangesAreRecorded : Prop :=
  (∀ (i : Instr) (s t : State), BoundaryInv s → s.status.fault = false → entryState i ≠ .idle → exec i s = .next t →
    t.status.fault = false → SequencerSelectInv { s with fsm := entryState i }) ∧
  (∀ s : State, SequencerSelectInv s → SequencerSelectInv s.seqStep ∧
    ∃ events, s.seqStep.trace = s.trace ++ events ∧ events.filter isSelectEvent =
      if csN s = .high ∧ csN s.seqStep = .low then [.csFall]
      else if csN s = .low ∧ csN s.seqStep = .high then [.csRise]
      else [])

/-- Nothing removes events from the trace but a reset (R44), from every state, in the middle of a command too. -/
def Obligations.TraceOnlyGrows : Prop :=
  ∀ s t : State, s.host.head? ≠ some .rstLow → step s = .next t → ∃ events, t.trace = s.trace ++ events

/-- The nominal lengths of R232's transfers in input-clock cycles: a TRANSACT, a BURST with N bytes, a frame and a DELAY, as
the sum over the events they add. -/
def Obligations.NominalDurations : Prop :=
  ∀ (i : Instr) (s t : State), s.status.fault = false → exec i s = .next t → t.status.fault = false →
    ∃ events, t.trace = s.trace ++ events ∧
      (((∃ opc reg data, i = .transactW opc reg data) ∨ ∃ opc reg, i = .transactR opc reg) →
        traceCycles s.params events =
          2 * (s.params.tSettleUs * s.params.clkPerUs) + s.params.tCssCyc + 24 * s.div.toNat) ∧
      ((∃ b0, i = .burst1 b0) → traceCycles s.params events = s.params.tCssCyc + 8 * 1 * s.div.toNat) ∧
      ((∃ b0 b1, i = .burst2 b0 b1) → traceCycles s.params events = s.params.tCssCyc + 8 * 2 * s.div.toNat) ∧
      ((∃ b0 b1 b2, i = .burst3 b0 b1 b2) → traceCycles s.params events = s.params.tCssCyc + 8 * 3 * s.div.toNat) ∧
      ((∃ data, i = .wrbyte data) → traceCycles s.params events = 8 * s.div.toNat) ∧
      (∀ us, i = .delay us → traceCycles s.params events = us.toNat * s.params.clkPerUs)
end

