-- ==== Sys2Proof/Laws/Encoding.lean ====
section
/-! SUPPORT. Command words as four bytes: bits, masks and equality byte by byte, the encoder's words in that form, and the
opcode table in that form. -/

namespace Sys2Proof

/-- The bits of a word of four bytes. -/
theorem getLsbD_bytes (a b c d : Byte) (i : Nat) : (a ++ b ++ c ++ d : Word).getLsbD i =
    if i < 8 then d.getLsbD i else if i < 16 then c.getLsbD (i - 8)
    else if i < 24 then b.getLsbD (i - 16) else a.getLsbD (i - 24) := by
  rw [show (a ++ b ++ c ++ d : Word).getLsbD i = BitVec.getLsbD (w := 24 + 8) ((a ++ b ++ c) ++ d) i from rfl,
    BitVec.getLsbD_append,
    show (a ++ b ++ c).getLsbD (i - 8) = BitVec.getLsbD (w := 16 + 8) ((a ++ b) ++ c) (i - 8) from rfl,
    BitVec.getLsbD_append, BitVec.getLsbD_append]
  simp only [Nat.sub_sub]
  split_ifs <;> first | rfl | omega

/-- Masking goes byte by byte. -/
theorem and_bytes (a b c d a' b' c' d' : Byte) :
    (a ++ b ++ c ++ d : Word) &&& (a' ++ b' ++ c' ++ d' : Word) =
      ((a &&& a') ++ (b &&& b') ++ (c &&& c') ++ (d &&& d') : Word) := by
  apply BitVec.eq_of_getLsbD_eq
  intro i hi
  rw [BitVec.getLsbD_and, getLsbD_bytes, getLsbD_bytes, getLsbD_bytes]
  split_ifs <;> simp

/-- Words of four bytes are equal when their bytes are. -/
theorem bytes_inj {a b c d a' b' c' d' : Byte} :
    (a ++ b ++ c ++ d : Word) = (a' ++ b' ++ c' ++ d' : Word) ↔ a = a' ∧ b = b' ∧ c = c' ∧ d = d' := by
  constructor
  · intro h
    have bits (i : Nat) := congrArg (fun w : Word => w.getLsbD i) h
    simp only [getLsbD_bytes] at bits
    refine ⟨?_, ?_, ?_, ?_⟩ <;> apply BitVec.eq_of_getLsbD_eq <;> intro i hi
    · simpa [show ¬ i + 24 < 8 by omega, show ¬ i + 24 < 16 by omega] using bits (i + 24)
    · simpa [show ¬ i + 16 < 8 by omega, show i + 16 < 24 by omega] using bits (i + 16)
    · simpa [show ¬ i + 8 < 8 by omega, show i + 8 < 16 by omega] using bits (i + 8)
    · simpa [hi] using bits i
  · rintro ⟨rfl, rfl, rfl, rfl⟩
    rfl

/-- The fields of a word of four bytes. -/
@[simp] theorem byteAt_bytes_0 (a b c d : Byte) : byteAt (a ++ b ++ c ++ d : Word) 0 = d := by
  apply BitVec.eq_of_getLsbD_eq
  intro i hi
  rw [byteAt, BitVec.getLsbD_extractLsb', getLsbD_bytes]
  simp [hi]

@[simp] theorem byteAt_bytes_8 (a b c d : Byte) : byteAt (a ++ b ++ c ++ d : Word) 8 = c := by
  apply BitVec.eq_of_getLsbD_eq
  intro i hi
  rw [byteAt, BitVec.getLsbD_extractLsb', getLsbD_bytes]
  simp [hi, show 8 + i < 16 by omega]

@[simp] theorem byteAt_bytes_16 (a b c d : Byte) : byteAt (a ++ b ++ c ++ d : Word) 16 = b := by
  apply BitVec.eq_of_getLsbD_eq
  intro i hi
  rw [byteAt, BitVec.getLsbD_extractLsb', getLsbD_bytes]
  simp [hi, show ¬ 16 + i < 8 by omega, show 16 + i < 24 by omega]

@[simp] theorem byteAt_bytes_24 (a b c d : Byte) : byteAt (a ++ b ++ c ++ d : Word) 24 = a := by
  apply BitVec.eq_of_getLsbD_eq
  intro i hi
  rw [byteAt, BitVec.getLsbD_extractLsb', getLsbD_bytes]
  simp [hi, show ¬ 24 + i < 8 by omega, show ¬ 24 + i < 16 by omega]

/-- Every word is its four bytes. -/
theorem word_eq_bytes (w : Word) : w = (byteAt w 24 ++ byteAt w 16 ++ byteAt w 8 ++ byteAt w 0 : Word) := by
  apply BitVec.eq_of_getLsbD_eq
  intro i hi
  rw [getLsbD_bytes]
  simp only [byteAt, BitVec.getLsbD_extractLsb']
  split_ifs with h1 h2 h3
  · simp [h1]
  · simp [show i - 8 < 8 by omega, show 8 + (i - 8) = i by omega]
  · simp [show i - 16 < 8 by omega, show 16 + (i - 16) = i by omega]
  · simp [show i - 24 < 8 by omega, show 24 + (i - 24) = i by omega]

/-! ### The encoder's words -/

/-- A byte in its place, as a word of four bytes. -/
theorem placeByte_0 (x : Byte) : placeByte x 0 = (0#8 ++ 0#8 ++ 0#8 ++ x : Word) := by
  apply BitVec.eq_of_getLsbD_eq
  intro i hi
  rw [getLsbD_bytes, placeByte, BitVec.getLsbD_shiftLeft]
  interval_cases i <;> simp

theorem placeByte_8 (x : Byte) : placeByte x 8 = (0#8 ++ 0#8 ++ x ++ 0#8 : Word) := by
  apply BitVec.eq_of_getLsbD_eq
  intro i hi
  rw [getLsbD_bytes, placeByte, BitVec.getLsbD_shiftLeft]
  interval_cases i <;> simp

theorem placeByte_16 (x : Byte) : placeByte x 16 = (0#8 ++ x ++ 0#8 ++ 0#8 : Word) := by
  apply BitVec.eq_of_getLsbD_eq
  intro i hi
  rw [getLsbD_bytes, placeByte, BitVec.getLsbD_shiftLeft]
  interval_cases i <;> simp

/-- Joining words of four bytes goes byte by byte. -/
theorem or_bytes (a b c d a' b' c' d' : Byte) :
    (a ++ b ++ c ++ d : Word) ||| (a' ++ b' ++ c' ++ d' : Word) =
      ((a ||| a') ++ (b ||| b') ++ (c ||| c') ++ (d ||| d') : Word) := by
  apply BitVec.eq_of_getLsbD_eq
  intro i hi
  rw [BitVec.getLsbD_or, getLsbD_bytes, getLsbD_bytes, getLsbD_bytes]
  split_ifs <;> simp

theorem encode_wrbyte (x : Byte) : encode (.wrbyte x) = (0x40#8 ++ 0#8 ++ 0#8 ++ x : Word) := by
  rw [encode, placeByte_0, show (0x40000000#32) = (0x40#8 ++ 0#8 ++ 0#8 ++ 0#8 : Word) from rfl, or_bytes]
  simp

theorem encode_transactW (o r x : Byte) : encode (.transactW o r x) = (0x81#8 ++ o ++ r ++ x : Word) := by
  rw [encode, placeByte_0, placeByte_8, placeByte_16,
    show (0x81000000#32) = (0x81#8 ++ 0#8 ++ 0#8 ++ 0#8 : Word) from rfl, or_bytes, or_bytes, or_bytes]
  simp

theorem encode_transactR (o r : Byte) : encode (.transactR o r) = (0x80#8 ++ o ++ r ++ 0#8 : Word) := by
  rw [encode, placeByte_8, placeByte_16,
    show (0x80000000#32) = (0x80#8 ++ 0#8 ++ 0#8 ++ 0#8 : Word) from rfl, or_bytes, or_bytes]
  simp

theorem encode_burst1 (x : Byte) : encode (.burst1 x) = (0x94#8 ++ x ++ 0#8 ++ 0#8 : Word) := by
  rw [encode, placeByte_16, show (0x94000000#32) = (0x94#8 ++ 0#8 ++ 0#8 ++ 0#8 : Word) from rfl, or_bytes]
  simp

theorem encode_burst2 (x y : Byte) : encode (.burst2 x y) = (0x98#8 ++ x ++ y ++ 0#8 : Word) := by
  rw [encode, placeByte_8, placeByte_16,
    show (0x98000000#32) = (0x98#8 ++ 0#8 ++ 0#8 ++ 0#8 : Word) from rfl, or_bytes, or_bytes]
  simp

theorem encode_burst3 (x y z : Byte) : encode (.burst3 x y z) = (0x9C#8 ++ x ++ y ++ z : Word) := by
  rw [encode, placeByte_0, placeByte_8, placeByte_16,
    show (0x9C000000#32) = (0x9C#8 ++ 0#8 ++ 0#8 ++ 0#8 : Word) from rfl, or_bytes, or_bytes, or_bytes]
  simp

theorem encode_delay (us : BitVec 24) : encode (.delay us) =
    (0xA0#8 ++ us.extractLsb' 16 8 ++ us.extractLsb' 8 8 ++ us.extractLsb' 0 8 : Word) := by
  apply BitVec.eq_of_getLsbD_eq
  intro i hi
  rw [getLsbD_bytes, encode]
  simp only [BitVec.getLsbD_or, BitVec.getLsbD_setWidth, BitVec.getLsbD_extractLsb']
  interval_cases i <;> simp

/-! ### The opcode table -/

/-- The table's masks and patterns, byte by byte. -/
theorem hits_bytes (r : OpcodeRow) (a b c d m3 m2 m1 m0 p3 p2 p1 p0 : Byte)
    (hm : r.mask = (m3 ++ m2 ++ m1 ++ m0 : Word)) (hp : r.pattern = (p3 ++ p2 ++ p1 ++ p0 : Word)) :
    r.hits (a ++ b ++ c ++ d : Word) = true ↔ a &&& m3 = p3 ∧ b &&& m2 = p2 ∧ c &&& m1 = p1 ∧ d &&& m0 = p0 := by
  rw [OpcodeRow.hits, beq_iff_eq, hm, hp, and_bytes, bytes_inj]

end Sys2Proof
end

