-- ==== Sys2Proof/Laws/State.lean ====
section
/-! SUPPORT. One lemma per field per update of the state: what each named operation does to each field. -/

namespace Sys2Proof.Machine

variable (s : State)

/-! ### State.raiseFault -/

@[simp] theorem State.raiseFault_params (code : FaultCode) (w : Word) : (s.raiseFault code w).params = s.params := rfl
@[simp] theorem State.raiseFault_arg0 (code : FaultCode) (w : Word) : (s.raiseFault code w).arg0 = s.arg0 := rfl
@[simp] theorem State.raiseFault_arg1 (code : FaultCode) (w : Word) : (s.raiseFault code w).arg1 = s.arg1 := rfl
@[simp] theorem State.raiseFault_result (code : FaultCode) (w : Word) : (s.raiseFault code w).result = s.result := rfl
@[simp] theorem State.raiseFault_status (code : FaultCode) (w : Word) :
    (s.raiseFault code w).status = { s.status with fault := true, fcode := codeOf code } := rfl
@[simp] theorem State.raiseFault_config (code : FaultCode) (w : Word) : (s.raiseFault code w).config = s.config := rfl
@[simp] theorem State.raiseFault_div (code : FaultCode) (w : Word) : (s.raiseFault code w).div = s.div := rfl
@[simp] theorem State.raiseFault_fcmd (code : FaultCode) (w : Word) : (s.raiseFault code w).fcmd = w := rfl
@[simp] theorem State.raiseFault_trace (code : FaultCode) (w : Word) : (s.raiseFault code w).trace = s.trace := rfl
@[simp] theorem State.raiseFault_rxbuf (code : FaultCode) (w : Word) : (s.raiseFault code w).rxbuf = s.rxbuf := rfl
@[simp] theorem State.raiseFault_txsr (code : FaultCode) (w : Word) : (s.raiseFault code w).txsr = s.txsr := rfl
@[simp] theorem State.raiseFault_fsm (code : FaultCode) (w : Word) : (s.raiseFault code w).fsm = s.fsm := rfl
@[simp] theorem State.raiseFault_rstN (code : FaultCode) (w : Word) : (s.raiseFault code w).rstN = s.rstN := rfl
@[simp] theorem State.raiseFault_blkClk (code : FaultCode) (w : Word) : (s.raiseFault code w).blkClk = s.blkClk := rfl
@[simp] theorem State.raiseFault_env (code : FaultCode) (w : Word) : (s.raiseFault code w).env = s.env := rfl
@[simp] theorem State.raiseFault_host (code : FaultCode) (w : Word) : (s.raiseFault code w).host = s.host := rfl
@[simp] theorem State.raiseFault_replies (code : FaultCode) (w : Word) :
    (s.raiseFault code w).replies = s.replies := rfl

/-! ### State.applyReset -/

@[simp] theorem State.applyReset_params (b : Bool) : (s.applyReset b).params = s.params := rfl
@[simp] theorem State.applyReset_arg0 (b : Bool) : (s.applyReset b).arg0 = 0#32 := rfl
@[simp] theorem State.applyReset_arg1 (b : Bool) : (s.applyReset b).arg1 = 0#32 := rfl
@[simp] theorem State.applyReset_result (b : Bool) : (s.applyReset b).result = 0#8 := rfl
@[simp] theorem State.applyReset_status (b : Bool) : (s.applyReset b).status = Status.reset := rfl
@[simp] theorem State.applyReset_config (b : Bool) : (s.applyReset b).config = ConfigReg.reset := rfl
@[simp] theorem State.applyReset_div (b : Bool) : (s.applyReset b).div = 0#32 := rfl
@[simp] theorem State.applyReset_fcmd (b : Bool) : (s.applyReset b).fcmd = 0#32 := rfl
@[simp] theorem State.applyReset_trace (b : Bool) : (s.applyReset b).trace = [] := rfl
@[simp] theorem State.applyReset_rxbuf (b : Bool) : (s.applyReset b).rxbuf = 0#8 := rfl
@[simp] theorem State.applyReset_txsr (b : Bool) : (s.applyReset b).txsr = 0#8 := rfl
@[simp] theorem State.applyReset_fsm (b : Bool) : (s.applyReset b).fsm = .idle := rfl
@[simp] theorem State.applyReset_rstN (b : Bool) : (s.applyReset b).rstN = b := rfl
@[simp] theorem State.applyReset_blkClk (b : Bool) : (s.applyReset b).blkClk = s.blkClk := rfl
@[simp] theorem State.applyReset_env (b : Bool) : (s.applyReset b).env = s.env := rfl
@[simp] theorem State.applyReset_host (b : Bool) : (s.applyReset b).host = s.host := rfl
@[simp] theorem State.applyReset_replies (b : Bool) : (s.applyReset b).replies = s.replies := rfl

/-! ### State.emit -/

@[simp] theorem State.emit_params (e : WireEvent) : (s.emit e).params = s.params := rfl
@[simp] theorem State.emit_arg0 (e : WireEvent) : (s.emit e).arg0 = s.arg0 := rfl
@[simp] theorem State.emit_arg1 (e : WireEvent) : (s.emit e).arg1 = s.arg1 := rfl
@[simp] theorem State.emit_result (e : WireEvent) : (s.emit e).result = s.result := rfl
@[simp] theorem State.emit_status (e : WireEvent) : (s.emit e).status = s.status := rfl
@[simp] theorem State.emit_config (e : WireEvent) : (s.emit e).config = s.config := rfl
@[simp] theorem State.emit_div (e : WireEvent) : (s.emit e).div = s.div := rfl
@[simp] theorem State.emit_fcmd (e : WireEvent) : (s.emit e).fcmd = s.fcmd := rfl
@[simp] theorem State.emit_trace (e : WireEvent) : (s.emit e).trace = s.trace ++ [e] := rfl
@[simp] theorem State.emit_rxbuf (e : WireEvent) : (s.emit e).rxbuf = s.rxbuf := rfl
@[simp] theorem State.emit_txsr (e : WireEvent) : (s.emit e).txsr = s.txsr := rfl
@[simp] theorem State.emit_fsm (e : WireEvent) : (s.emit e).fsm = s.fsm := rfl
@[simp] theorem State.emit_rstN (e : WireEvent) : (s.emit e).rstN = s.rstN := rfl
@[simp] theorem State.emit_blkClk (e : WireEvent) : (s.emit e).blkClk = s.blkClk := rfl
@[simp] theorem State.emit_env (e : WireEvent) : (s.emit e).env = s.env := rfl
@[simp] theorem State.emit_host (e : WireEvent) : (s.emit e).host = s.host := rfl
@[simp] theorem State.emit_replies (e : WireEvent) : (s.emit e).replies = s.replies := rfl

/-! ### State.reply -/

@[simp] theorem State.reply_params (r : Reply) : (s.reply r).params = s.params := rfl
@[simp] theorem State.reply_arg0 (r : Reply) : (s.reply r).arg0 = s.arg0 := rfl
@[simp] theorem State.reply_arg1 (r : Reply) : (s.reply r).arg1 = s.arg1 := rfl
@[simp] theorem State.reply_result (r : Reply) : (s.reply r).result = s.result := rfl
@[simp] theorem State.reply_status (r : Reply) : (s.reply r).status = s.status := rfl
@[simp] theorem State.reply_config (r : Reply) : (s.reply r).config = s.config := rfl
@[simp] theorem State.reply_div (r : Reply) : (s.reply r).div = s.div := rfl
@[simp] theorem State.reply_fcmd (r : Reply) : (s.reply r).fcmd = s.fcmd := rfl
@[simp] theorem State.reply_trace (r : Reply) : (s.reply r).trace = s.trace := rfl
@[simp] theorem State.reply_rxbuf (r : Reply) : (s.reply r).rxbuf = s.rxbuf := rfl
@[simp] theorem State.reply_txsr (r : Reply) : (s.reply r).txsr = s.txsr := rfl
@[simp] theorem State.reply_fsm (r : Reply) : (s.reply r).fsm = s.fsm := rfl
@[simp] theorem State.reply_rstN (r : Reply) : (s.reply r).rstN = s.rstN := rfl
@[simp] theorem State.reply_blkClk (r : Reply) : (s.reply r).blkClk = s.blkClk := rfl
@[simp] theorem State.reply_env (r : Reply) : (s.reply r).env = s.env := rfl
@[simp] theorem State.reply_host (r : Reply) : (s.reply r).host = s.host := rfl
@[simp] theorem State.reply_replies (r : Reply) : (s.reply r).replies = s.replies ++ [r] := rfl

/-! ### State.setBusy -/

@[simp] theorem State.setBusy_params (b : Bool) : (s.setBusy b).params = s.params := rfl
@[simp] theorem State.setBusy_arg0 (b : Bool) : (s.setBusy b).arg0 = s.arg0 := rfl
@[simp] theorem State.setBusy_arg1 (b : Bool) : (s.setBusy b).arg1 = s.arg1 := rfl
@[simp] theorem State.setBusy_result (b : Bool) : (s.setBusy b).result = s.result := rfl
@[simp] theorem State.setBusy_status (b : Bool) : (s.setBusy b).status = { s.status with busy := b } := rfl
@[simp] theorem State.setBusy_config (b : Bool) : (s.setBusy b).config = s.config := rfl
@[simp] theorem State.setBusy_div (b : Bool) : (s.setBusy b).div = s.div := rfl
@[simp] theorem State.setBusy_fcmd (b : Bool) : (s.setBusy b).fcmd = s.fcmd := rfl
@[simp] theorem State.setBusy_trace (b : Bool) : (s.setBusy b).trace = s.trace := rfl
@[simp] theorem State.setBusy_rxbuf (b : Bool) : (s.setBusy b).rxbuf = s.rxbuf := rfl
@[simp] theorem State.setBusy_txsr (b : Bool) : (s.setBusy b).txsr = s.txsr := rfl
@[simp] theorem State.setBusy_fsm (b : Bool) : (s.setBusy b).fsm = s.fsm := rfl
@[simp] theorem State.setBusy_rstN (b : Bool) : (s.setBusy b).rstN = s.rstN := rfl
@[simp] theorem State.setBusy_blkClk (b : Bool) : (s.setBusy b).blkClk = s.blkClk := rfl
@[simp] theorem State.setBusy_env (b : Bool) : (s.setBusy b).env = s.env := rfl
@[simp] theorem State.setBusy_host (b : Bool) : (s.setBusy b).host = s.host := rfl
@[simp] theorem State.setBusy_replies (b : Bool) : (s.setBusy b).replies = s.replies := rfl

/-! ### State.drawByte -/

@[simp] theorem State.drawByte_params : (s.drawByte).params = s.params := rfl
@[simp] theorem State.drawByte_arg0 : (s.drawByte).arg0 = s.arg0 := rfl
@[simp] theorem State.drawByte_arg1 : (s.drawByte).arg1 = s.arg1 := rfl
@[simp] theorem State.drawByte_result : (s.drawByte).result = s.result := rfl
@[simp] theorem State.drawByte_status : (s.drawByte).status = s.status := rfl
@[simp] theorem State.drawByte_config : (s.drawByte).config = s.config := rfl
@[simp] theorem State.drawByte_div : (s.drawByte).div = s.div := rfl
@[simp] theorem State.drawByte_fcmd : (s.drawByte).fcmd = s.fcmd := rfl
@[simp] theorem State.drawByte_trace : (s.drawByte).trace = s.trace := rfl
@[simp] theorem State.drawByte_rxbuf : (s.drawByte).rxbuf = s.rxbuf := rfl
@[simp] theorem State.drawByte_txsr : (s.drawByte).txsr = s.txsr := rfl
@[simp] theorem State.drawByte_fsm : (s.drawByte).fsm = s.fsm := rfl
@[simp] theorem State.drawByte_rstN : (s.drawByte).rstN = s.rstN := rfl
@[simp] theorem State.drawByte_blkClk : (s.drawByte).blkClk = s.blkClk := rfl
@[simp] theorem State.drawByte_env :
    (s.drawByte).env = { s.env with draws := s.env.draws + 1, slave := s.env.slave.tail } := rfl
@[simp] theorem State.drawByte_host : (s.drawByte).host = s.host := rfl
@[simp] theorem State.drawByte_replies : (s.drawByte).replies = s.replies := rfl

/-! ### State.drawSurvivor -/

@[simp] theorem State.drawSurvivor_params : (s.drawSurvivor).params = s.params := rfl
@[simp] theorem State.drawSurvivor_arg0 : (s.drawSurvivor).arg0 = s.arg0 := rfl
@[simp] theorem State.drawSurvivor_arg1 : (s.drawSurvivor).arg1 = s.arg1 := rfl
@[simp] theorem State.drawSurvivor_result : (s.drawSurvivor).result = s.result := rfl
@[simp] theorem State.drawSurvivor_status : (s.drawSurvivor).status = s.status := rfl
@[simp] theorem State.drawSurvivor_config : (s.drawSurvivor).config = s.config := rfl
@[simp] theorem State.drawSurvivor_div : (s.drawSurvivor).div = s.div := rfl
@[simp] theorem State.drawSurvivor_fcmd : (s.drawSurvivor).fcmd = s.fcmd := rfl
@[simp] theorem State.drawSurvivor_trace : (s.drawSurvivor).trace = s.trace := rfl
@[simp] theorem State.drawSurvivor_rxbuf : (s.drawSurvivor).rxbuf = s.rxbuf := rfl
@[simp] theorem State.drawSurvivor_txsr : (s.drawSurvivor).txsr = s.txsr := rfl
@[simp] theorem State.drawSurvivor_fsm : (s.drawSurvivor).fsm = s.fsm := rfl
@[simp] theorem State.drawSurvivor_rstN : (s.drawSurvivor).rstN = s.rstN := rfl
@[simp] theorem State.drawSurvivor_blkClk : (s.drawSurvivor).blkClk = s.blkClk := rfl
@[simp] theorem State.drawSurvivor_env :
    (s.drawSurvivor).env = { s.env with draws := s.env.draws + 1, survivors := s.env.survivors.tail } := rfl
@[simp] theorem State.drawSurvivor_host : (s.drawSurvivor).host = s.host := rfl
@[simp] theorem State.drawSurvivor_replies : (s.drawSurvivor).replies = s.replies := rfl

/-! ### State.capture -/

@[simp] theorem State.capture_params (rx : Byte) : (s.capture rx).params = s.params := by
  unfold State.capture; split <;> rfl
@[simp] theorem State.capture_arg0 (rx : Byte) : (s.capture rx).arg0 = s.arg0 := by
  unfold State.capture; split <;> rfl
@[simp] theorem State.capture_arg1 (rx : Byte) : (s.capture rx).arg1 = s.arg1 := by
  unfold State.capture; split <;> rfl
@[simp] theorem State.capture_result (rx : Byte) : (s.capture rx).result = s.result := by
  unfold State.capture; split <;> rfl
@[simp] theorem State.capture_status (rx : Byte) :
    (s.capture rx).status = { s.status with rovr := s.status.rovr || s.status.rxfull, rxfull := true } := by
  unfold State.capture; split <;> rfl
@[simp] theorem State.capture_config (rx : Byte) : (s.capture rx).config = s.config := by
  unfold State.capture; split <;> rfl
@[simp] theorem State.capture_div (rx : Byte) : (s.capture rx).div = s.div := by
  unfold State.capture; split <;> rfl
@[simp] theorem State.capture_fcmd (rx : Byte) : (s.capture rx).fcmd = s.fcmd := by
  unfold State.capture; split <;> rfl
@[simp] theorem State.capture_trace (rx : Byte) : (s.capture rx).trace = s.trace := by
  unfold State.capture; split <;> rfl
@[simp] theorem State.capture_rxbuf (rx : Byte) : (s.capture rx).rxbuf = s.captured rx := by
  unfold State.capture; split <;> rfl
@[simp] theorem State.capture_txsr (rx : Byte) : (s.capture rx).txsr = s.txsr := by
  unfold State.capture; split <;> rfl
@[simp] theorem State.capture_fsm (rx : Byte) : (s.capture rx).fsm = s.fsm := by
  unfold State.capture; split <;> rfl
@[simp] theorem State.capture_rstN (rx : Byte) : (s.capture rx).rstN = s.rstN := by
  unfold State.capture; split <;> rfl
@[simp] theorem State.capture_blkClk (rx : Byte) : (s.capture rx).blkClk = s.blkClk := by
  unfold State.capture; split <;> rfl
@[simp] theorem State.capture_env (rx : Byte) :
    (s.capture rx).env = if s.status.rxfull then s.drawSurvivor.env else s.env := by
  unfold State.capture; split <;> rfl
@[simp] theorem State.capture_host (rx : Byte) : (s.capture rx).host = s.host := by
  unfold State.capture; split <;> rfl
@[simp] theorem State.capture_replies (rx : Byte) : (s.capture rx).replies = s.replies := by
  unfold State.capture; split <;> rfl

/-! ### State.selectLow -/

@[simp] theorem State.selectLow_params : (s.selectLow).params = s.params := rfl
@[simp] theorem State.selectLow_arg0 : (s.selectLow).arg0 = s.arg0 := rfl
@[simp] theorem State.selectLow_arg1 : (s.selectLow).arg1 = s.arg1 := rfl
@[simp] theorem State.selectLow_result : (s.selectLow).result = s.result := rfl
@[simp] theorem State.selectLow_status : (s.selectLow).status = s.status := rfl
@[simp] theorem State.selectLow_config : (s.selectLow).config = s.config := rfl
@[simp] theorem State.selectLow_div : (s.selectLow).div = s.div := rfl
@[simp] theorem State.selectLow_fcmd : (s.selectLow).fcmd = s.fcmd := rfl
@[simp] theorem State.selectLow_trace : (s.selectLow).trace = s.trace ++ [.csFall] := rfl
@[simp] theorem State.selectLow_rxbuf : (s.selectLow).rxbuf = s.rxbuf := rfl
@[simp] theorem State.selectLow_txsr : (s.selectLow).txsr = s.txsr := rfl
@[simp] theorem State.selectLow_fsm : (s.selectLow).fsm = s.fsm := rfl
@[simp] theorem State.selectLow_rstN : (s.selectLow).rstN = s.rstN := rfl
@[simp] theorem State.selectLow_blkClk : (s.selectLow).blkClk = s.blkClk := rfl
@[simp] theorem State.selectLow_env : (s.selectLow).env = s.env := rfl
@[simp] theorem State.selectLow_host : (s.selectLow).host = s.host := rfl
@[simp] theorem State.selectLow_replies : (s.selectLow).replies = s.replies := rfl

/-! ### State.setupWait -/

@[simp] theorem State.setupWait_params : (s.setupWait).params = s.params := rfl
@[simp] theorem State.setupWait_arg0 : (s.setupWait).arg0 = s.arg0 := rfl
@[simp] theorem State.setupWait_arg1 : (s.setupWait).arg1 = s.arg1 := rfl
@[simp] theorem State.setupWait_result : (s.setupWait).result = s.result := rfl
@[simp] theorem State.setupWait_status : (s.setupWait).status = s.status := rfl
@[simp] theorem State.setupWait_config : (s.setupWait).config = s.config := rfl
@[simp] theorem State.setupWait_div : (s.setupWait).div = s.div := rfl
@[simp] theorem State.setupWait_fcmd : (s.setupWait).fcmd = s.fcmd := rfl
@[simp] theorem State.setupWait_trace : (s.setupWait).trace = s.trace ++ [.wait .css s.params.tCssCyc] := rfl
@[simp] theorem State.setupWait_rxbuf : (s.setupWait).rxbuf = s.rxbuf := rfl
@[simp] theorem State.setupWait_txsr : (s.setupWait).txsr = s.txsr := rfl
@[simp] theorem State.setupWait_fsm : (s.setupWait).fsm = s.fsm := rfl
@[simp] theorem State.setupWait_rstN : (s.setupWait).rstN = s.rstN := rfl
@[simp] theorem State.setupWait_blkClk : (s.setupWait).blkClk = s.blkClk := rfl
@[simp] theorem State.setupWait_env : (s.setupWait).env = s.env := rfl
@[simp] theorem State.setupWait_host : (s.setupWait).host = s.host := rfl
@[simp] theorem State.setupWait_replies : (s.setupWait).replies = s.replies := rfl

/-! ### State.selOn -/

@[simp] theorem State.selOn_params : (s.selOn).params = s.params := rfl
@[simp] theorem State.selOn_arg0 : (s.selOn).arg0 = s.arg0 := rfl
@[simp] theorem State.selOn_arg1 : (s.selOn).arg1 = s.arg1 := rfl
@[simp] theorem State.selOn_result : (s.selOn).result = s.result := rfl
@[simp] theorem State.selOn_status : (s.selOn).status = s.status := rfl
@[simp] theorem State.selOn_config : (s.selOn).config = s.config := rfl
@[simp] theorem State.selOn_div : (s.selOn).div = s.div := rfl
@[simp] theorem State.selOn_fcmd : (s.selOn).fcmd = s.fcmd := rfl
@[simp] theorem State.selOn_trace : (s.selOn).trace = s.trace ++ [.csFall, .wait .css s.params.tCssCyc] := by
  simp [State.selOn]
@[simp] theorem State.selOn_rxbuf : (s.selOn).rxbuf = s.rxbuf := rfl
@[simp] theorem State.selOn_txsr : (s.selOn).txsr = s.txsr := rfl
@[simp] theorem State.selOn_fsm : (s.selOn).fsm = s.fsm := rfl
@[simp] theorem State.selOn_rstN : (s.selOn).rstN = s.rstN := rfl
@[simp] theorem State.selOn_blkClk : (s.selOn).blkClk = s.blkClk := rfl
@[simp] theorem State.selOn_env : (s.selOn).env = s.env := rfl
@[simp] theorem State.selOn_host : (s.selOn).host = s.host := rfl
@[simp] theorem State.selOn_replies : (s.selOn).replies = s.replies := rfl

/-! ### State.selOff -/

@[simp] theorem State.selOff_params : (s.selOff).params = s.params := rfl
@[simp] theorem State.selOff_arg0 : (s.selOff).arg0 = s.arg0 := rfl
@[simp] theorem State.selOff_arg1 : (s.selOff).arg1 = s.arg1 := rfl
@[simp] theorem State.selOff_result : (s.selOff).result = s.result := rfl
@[simp] theorem State.selOff_status : (s.selOff).status = s.status := rfl
@[simp] theorem State.selOff_config : (s.selOff).config = s.config := rfl
@[simp] theorem State.selOff_div : (s.selOff).div = s.div := rfl
@[simp] theorem State.selOff_fcmd : (s.selOff).fcmd = s.fcmd := rfl
@[simp] theorem State.selOff_trace : (s.selOff).trace = s.trace ++ [.csRise] := rfl
@[simp] theorem State.selOff_rxbuf : (s.selOff).rxbuf = s.rxbuf := rfl
@[simp] theorem State.selOff_txsr : (s.selOff).txsr = s.txsr := rfl
@[simp] theorem State.selOff_fsm : (s.selOff).fsm = s.fsm := rfl
@[simp] theorem State.selOff_rstN : (s.selOff).rstN = s.rstN := rfl
@[simp] theorem State.selOff_blkClk : (s.selOff).blkClk = s.blkClk := rfl
@[simp] theorem State.selOff_env : (s.selOff).env = s.env := rfl
@[simp] theorem State.selOff_host : (s.selOff).host = s.host := rfl
@[simp] theorem State.selOff_replies : (s.selOff).replies = s.replies := rfl

/-! ### State.settle -/

@[simp] theorem State.settle_params : (s.settle).params = s.params := rfl
@[simp] theorem State.settle_arg0 : (s.settle).arg0 = s.arg0 := rfl
@[simp] theorem State.settle_arg1 : (s.settle).arg1 = s.arg1 := rfl
@[simp] theorem State.settle_result : (s.settle).result = s.result := rfl
@[simp] theorem State.settle_status : (s.settle).status = s.status := rfl
@[simp] theorem State.settle_config : (s.settle).config = s.config := rfl
@[simp] theorem State.settle_div : (s.settle).div = s.div := rfl
@[simp] theorem State.settle_fcmd : (s.settle).fcmd = s.fcmd := rfl
@[simp] theorem State.settle_trace : (s.settle).trace = s.trace ++ [.wait .settle s.params.tSettleUs] := rfl
@[simp] theorem State.settle_rxbuf : (s.settle).rxbuf = s.rxbuf := rfl
@[simp] theorem State.settle_txsr : (s.settle).txsr = s.txsr := rfl
@[simp] theorem State.settle_fsm : (s.settle).fsm = s.fsm := rfl
@[simp] theorem State.settle_rstN : (s.settle).rstN = s.rstN := rfl
@[simp] theorem State.settle_blkClk : (s.settle).blkClk = s.blkClk := rfl
@[simp] theorem State.settle_env : (s.settle).env = s.env := rfl
@[simp] theorem State.settle_host : (s.settle).host = s.host := rfl
@[simp] theorem State.settle_replies : (s.settle).replies = s.replies := rfl

/-! ### State.hwSelect -/

@[simp] theorem State.hwSelect_params (e : WireEvent) : (s.hwSelect e).params = s.params := by
  unfold State.hwSelect; split <;> rfl
@[simp] theorem State.hwSelect_arg0 (e : WireEvent) : (s.hwSelect e).arg0 = s.arg0 := by
  unfold State.hwSelect; split <;> rfl
@[simp] theorem State.hwSelect_arg1 (e : WireEvent) : (s.hwSelect e).arg1 = s.arg1 := by
  unfold State.hwSelect; split <;> rfl
@[simp] theorem State.hwSelect_result (e : WireEvent) : (s.hwSelect e).result = s.result := by
  unfold State.hwSelect; split <;> rfl
@[simp] theorem State.hwSelect_status (e : WireEvent) : (s.hwSelect e).status = s.status := by
  unfold State.hwSelect; split <;> rfl
@[simp] theorem State.hwSelect_config (e : WireEvent) : (s.hwSelect e).config = s.config := by
  unfold State.hwSelect; split <;> rfl
@[simp] theorem State.hwSelect_div (e : WireEvent) : (s.hwSelect e).div = s.div := by
  unfold State.hwSelect; split <;> rfl
@[simp] theorem State.hwSelect_fcmd (e : WireEvent) : (s.hwSelect e).fcmd = s.fcmd := by
  unfold State.hwSelect; split <;> rfl
@[simp] theorem State.hwSelect_trace (e : WireEvent) :
    (s.hwSelect e).trace = s.trace ++ (if s.config.hwcs then [e] else []) := by
  unfold State.hwSelect; split <;> simp [State.emit]
@[simp] theorem State.hwSelect_rxbuf (e : WireEvent) : (s.hwSelect e).rxbuf = s.rxbuf := by
  unfold State.hwSelect; split <;> rfl
@[simp] theorem State.hwSelect_txsr (e : WireEvent) : (s.hwSelect e).txsr = s.txsr := by
  unfold State.hwSelect; split <;> rfl
@[simp] theorem State.hwSelect_fsm (e : WireEvent) : (s.hwSelect e).fsm = s.fsm := by
  unfold State.hwSelect; split <;> rfl
@[simp] theorem State.hwSelect_rstN (e : WireEvent) : (s.hwSelect e).rstN = s.rstN := by
  unfold State.hwSelect; split <;> rfl
@[simp] theorem State.hwSelect_blkClk (e : WireEvent) : (s.hwSelect e).blkClk = s.blkClk := by
  unfold State.hwSelect; split <;> rfl
@[simp] theorem State.hwSelect_env (e : WireEvent) : (s.hwSelect e).env = s.env := by
  unfold State.hwSelect; split <;> rfl
@[simp] theorem State.hwSelect_host (e : WireEvent) : (s.hwSelect e).host = s.host := by
  unfold State.hwSelect; split <;> rfl
@[simp] theorem State.hwSelect_replies (e : WireEvent) : (s.hwSelect e).replies = s.replies := by
  unfold State.hwSelect; split <;> rfl

/-! ### State.drain -/

@[simp] theorem State.drain_params : (s.drain).params = s.params := rfl
@[simp] theorem State.drain_arg0 : (s.drain).arg0 = s.arg0 := rfl
@[simp] theorem State.drain_arg1 : (s.drain).arg1 = s.arg1 := rfl
@[simp] theorem State.drain_result : (s.drain).result = s.result := rfl
@[simp] theorem State.drain_status : (s.drain).status = { s.status with rxfull := false } := rfl
@[simp] theorem State.drain_config : (s.drain).config = s.config := rfl
@[simp] theorem State.drain_div : (s.drain).div = s.div := rfl
@[simp] theorem State.drain_fcmd : (s.drain).fcmd = s.fcmd := rfl
@[simp] theorem State.drain_trace : (s.drain).trace = s.trace := rfl
@[simp] theorem State.drain_rxbuf : (s.drain).rxbuf = s.rxbuf := rfl
@[simp] theorem State.drain_txsr : (s.drain).txsr = s.txsr := rfl
@[simp] theorem State.drain_fsm : (s.drain).fsm = s.fsm := rfl
@[simp] theorem State.drain_rstN : (s.drain).rstN = s.rstN := rfl
@[simp] theorem State.drain_blkClk : (s.drain).blkClk = s.blkClk := rfl
@[simp] theorem State.drain_env : (s.drain).env = s.env := rfl
@[simp] theorem State.drain_host : (s.drain).host = s.host := rfl
@[simp] theorem State.drain_replies : (s.drain).replies = s.replies := rfl

/-! ### State.deliver -/

@[simp] theorem State.deliver_params : (s.deliver).params = s.params := rfl
@[simp] theorem State.deliver_arg0 : (s.deliver).arg0 = s.arg0 := rfl
@[simp] theorem State.deliver_arg1 : (s.deliver).arg1 = s.arg1 := rfl
@[simp] theorem State.deliver_result : (s.deliver).result = s.rxbuf := rfl
@[simp] theorem State.deliver_status : (s.deliver).status = { s.status with rxfull := false } := rfl
@[simp] theorem State.deliver_config : (s.deliver).config = s.config := rfl
@[simp] theorem State.deliver_div : (s.deliver).div = s.div := rfl
@[simp] theorem State.deliver_fcmd : (s.deliver).fcmd = s.fcmd := rfl
@[simp] theorem State.deliver_trace : (s.deliver).trace = s.trace := rfl
@[simp] theorem State.deliver_rxbuf : (s.deliver).rxbuf = s.rxbuf := rfl
@[simp] theorem State.deliver_txsr : (s.deliver).txsr = s.txsr := rfl
@[simp] theorem State.deliver_fsm : (s.deliver).fsm = s.fsm := rfl
@[simp] theorem State.deliver_rstN : (s.deliver).rstN = s.rstN := rfl
@[simp] theorem State.deliver_blkClk : (s.deliver).blkClk = s.blkClk := rfl
@[simp] theorem State.deliver_env : (s.deliver).env = s.env := rfl
@[simp] theorem State.deliver_host : (s.deliver).host = s.host := rfl
@[simp] theorem State.deliver_replies : (s.deliver).replies = s.replies := rfl

/-! ### State.transactTail -/

@[simp] theorem State.transactTail_params : (s.transactTail).params = s.params := rfl
@[simp] theorem State.transactTail_arg0 : (s.transactTail).arg0 = s.arg0 := rfl
@[simp] theorem State.transactTail_arg1 : (s.transactTail).arg1 = s.arg1 := rfl
@[simp] theorem State.transactTail_result : (s.transactTail).result = s.result := rfl
@[simp] theorem State.transactTail_status : (s.transactTail).status = s.status := rfl
@[simp] theorem State.transactTail_config : (s.transactTail).config = s.config := rfl
@[simp] theorem State.transactTail_div : (s.transactTail).div = s.div := rfl
@[simp] theorem State.transactTail_fcmd : (s.transactTail).fcmd = s.fcmd := rfl
@[simp] theorem State.transactTail_trace :
    (s.transactTail).trace = s.trace ++ [.csRise, .wait .settle s.params.tSettleUs] := by
  simp [State.transactTail]
@[simp] theorem State.transactTail_rxbuf : (s.transactTail).rxbuf = s.rxbuf := rfl
@[simp] theorem State.transactTail_txsr : (s.transactTail).txsr = s.txsr := rfl
@[simp] theorem State.transactTail_fsm : (s.transactTail).fsm = s.fsm := rfl
@[simp] theorem State.transactTail_rstN : (s.transactTail).rstN = s.rstN := rfl
@[simp] theorem State.transactTail_blkClk : (s.transactTail).blkClk = s.blkClk := rfl
@[simp] theorem State.transactTail_env : (s.transactTail).env = s.env := rfl
@[simp] theorem State.transactTail_host : (s.transactTail).host = s.host := rfl
@[simp] theorem State.transactTail_replies : (s.transactTail).replies = s.replies := rfl

/-! ### State.setEnable -/

@[simp] theorem State.setEnable_params (b : Bool) : (s.setEnable b).params = s.params := rfl
@[simp] theorem State.setEnable_arg0 (b : Bool) : (s.setEnable b).arg0 = s.arg0 := rfl
@[simp] theorem State.setEnable_arg1 (b : Bool) : (s.setEnable b).arg1 = s.arg1 := rfl
@[simp] theorem State.setEnable_result (b : Bool) : (s.setEnable b).result = s.result := rfl
@[simp] theorem State.setEnable_status (b : Bool) : (s.setEnable b).status = s.status := rfl
@[simp] theorem State.setEnable_config (b : Bool) : (s.setEnable b).config = { s.config with en := b } := rfl
@[simp] theorem State.setEnable_div (b : Bool) : (s.setEnable b).div = s.div := rfl
@[simp] theorem State.setEnable_fcmd (b : Bool) : (s.setEnable b).fcmd = s.fcmd := rfl
@[simp] theorem State.setEnable_trace (b : Bool) : (s.setEnable b).trace = s.trace := rfl
@[simp] theorem State.setEnable_rxbuf (b : Bool) : (s.setEnable b).rxbuf = s.rxbuf := rfl
@[simp] theorem State.setEnable_txsr (b : Bool) : (s.setEnable b).txsr = s.txsr := rfl
@[simp] theorem State.setEnable_fsm (b : Bool) : (s.setEnable b).fsm = s.fsm := rfl
@[simp] theorem State.setEnable_rstN (b : Bool) : (s.setEnable b).rstN = s.rstN := rfl
@[simp] theorem State.setEnable_blkClk (b : Bool) : (s.setEnable b).blkClk = s.blkClk := rfl
@[simp] theorem State.setEnable_env (b : Bool) : (s.setEnable b).env = s.env := rfl
@[simp] theorem State.setEnable_host (b : Bool) : (s.setEnable b).host = s.host := rfl
@[simp] theorem State.setEnable_replies (b : Bool) : (s.setEnable b).replies = s.replies := rfl

/-! ### State.initialize -/

@[simp] theorem State.initialize_params (hwcs rxen : Bool) : (s.initialize hwcs rxen).params = s.params := rfl
@[simp] theorem State.initialize_arg0 (hwcs rxen : Bool) : (s.initialize hwcs rxen).arg0 = s.arg0 := rfl
@[simp] theorem State.initialize_arg1 (hwcs rxen : Bool) : (s.initialize hwcs rxen).arg1 = s.arg1 := rfl
@[simp] theorem State.initialize_result (hwcs rxen : Bool) : (s.initialize hwcs rxen).result = s.result := rfl
@[simp] theorem State.initialize_status (hwcs rxen : Bool) :
    (s.initialize hwcs rxen).status = { s.status with rxfull := false, rovr := false } := rfl
@[simp] theorem State.initialize_config (hwcs rxen : Bool) :
    (s.initialize hwcs rxen).config = { s.config with en := false, cfg := true, hwcs := hwcs, rxen := rxen } := rfl
@[simp] theorem State.initialize_div (hwcs rxen : Bool) : (s.initialize hwcs rxen).div = s.div := rfl
@[simp] theorem State.initialize_fcmd (hwcs rxen : Bool) : (s.initialize hwcs rxen).fcmd = s.fcmd := rfl
@[simp] theorem State.initialize_trace (hwcs rxen : Bool) : (s.initialize hwcs rxen).trace = s.trace := rfl
@[simp] theorem State.initialize_rxbuf (hwcs rxen : Bool) : (s.initialize hwcs rxen).rxbuf = s.rxbuf := rfl
@[simp] theorem State.initialize_txsr (hwcs rxen : Bool) : (s.initialize hwcs rxen).txsr = s.txsr := rfl
@[simp] theorem State.initialize_fsm (hwcs rxen : Bool) : (s.initialize hwcs rxen).fsm = s.fsm := rfl
@[simp] theorem State.initialize_rstN (hwcs rxen : Bool) : (s.initialize hwcs rxen).rstN = s.rstN := rfl
@[simp] theorem State.initialize_blkClk (hwcs rxen : Bool) : (s.initialize hwcs rxen).blkClk = s.blkClk := rfl
@[simp] theorem State.initialize_env (hwcs rxen : Bool) : (s.initialize hwcs rxen).env = s.env := rfl
@[simp] theorem State.initialize_host (hwcs rxen : Bool) : (s.initialize hwcs rxen).host = s.host := rfl
@[simp] theorem State.initialize_replies (hwcs rxen : Bool) : (s.initialize hwcs rxen).replies = s.replies := rfl

/-! ### State.installDivisor -/

@[simp] theorem State.installDivisor_params (d : Nat) : (s.installDivisor d).params = s.params := rfl
@[simp] theorem State.installDivisor_arg0 (d : Nat) : (s.installDivisor d).arg0 = s.arg0 := rfl
@[simp] theorem State.installDivisor_arg1 (d : Nat) : (s.installDivisor d).arg1 = s.arg1 := rfl
@[simp] theorem State.installDivisor_result (d : Nat) : (s.installDivisor d).result = s.result := rfl
@[simp] theorem State.installDivisor_status (d : Nat) : (s.installDivisor d).status = s.status := rfl
@[simp] theorem State.installDivisor_config (d : Nat) :
    (s.installDivisor d).config = { s.config with en := true } := rfl
@[simp] theorem State.installDivisor_div (d : Nat) : (s.installDivisor d).div = BitVec.ofNat 32 d := rfl
@[simp] theorem State.installDivisor_fcmd (d : Nat) : (s.installDivisor d).fcmd = s.fcmd := rfl
@[simp] theorem State.installDivisor_trace (d : Nat) : (s.installDivisor d).trace = s.trace := rfl
@[simp] theorem State.installDivisor_rxbuf (d : Nat) : (s.installDivisor d).rxbuf = s.rxbuf := rfl
@[simp] theorem State.installDivisor_txsr (d : Nat) : (s.installDivisor d).txsr = s.txsr := rfl
@[simp] theorem State.installDivisor_fsm (d : Nat) : (s.installDivisor d).fsm = s.fsm := rfl
@[simp] theorem State.installDivisor_rstN (d : Nat) : (s.installDivisor d).rstN = s.rstN := rfl
@[simp] theorem State.installDivisor_blkClk (d : Nat) : (s.installDivisor d).blkClk = s.blkClk := rfl
@[simp] theorem State.installDivisor_env (d : Nat) : (s.installDivisor d).env = s.env := rfl
@[simp] theorem State.installDivisor_host (d : Nat) : (s.installDivisor d).host = s.host := rfl
@[simp] theorem State.installDivisor_replies (d : Nat) : (s.installDivisor d).replies = s.replies := rfl

/-! ### State.installMode -/

@[simp] theorem State.installMode_params (cpol cpha : Bool) : (s.installMode cpol cpha).params = s.params := rfl
@[simp] theorem State.installMode_arg0 (cpol cpha : Bool) : (s.installMode cpol cpha).arg0 = s.arg0 := rfl
@[simp] theorem State.installMode_arg1 (cpol cpha : Bool) : (s.installMode cpol cpha).arg1 = s.arg1 := rfl
@[simp] theorem State.installMode_result (cpol cpha : Bool) : (s.installMode cpol cpha).result = s.result := rfl
@[simp] theorem State.installMode_status (cpol cpha : Bool) : (s.installMode cpol cpha).status = s.status := rfl
@[simp] theorem State.installMode_config (cpol cpha : Bool) :
    (s.installMode cpol cpha).config = { s.config with cpol := cpol, cpha := cpha, sckpu := cpol, en := true } := rfl
@[simp] theorem State.installMode_div (cpol cpha : Bool) : (s.installMode cpol cpha).div = s.div := rfl
@[simp] theorem State.installMode_fcmd (cpol cpha : Bool) : (s.installMode cpol cpha).fcmd = s.fcmd := rfl
@[simp] theorem State.installMode_trace (cpol cpha : Bool) : (s.installMode cpol cpha).trace = s.trace := rfl
@[simp] theorem State.installMode_rxbuf (cpol cpha : Bool) : (s.installMode cpol cpha).rxbuf = s.rxbuf := rfl
@[simp] theorem State.installMode_txsr (cpol cpha : Bool) : (s.installMode cpol cpha).txsr = s.txsr := rfl
@[simp] theorem State.installMode_fsm (cpol cpha : Bool) : (s.installMode cpol cpha).fsm = s.fsm := rfl
@[simp] theorem State.installMode_rstN (cpol cpha : Bool) : (s.installMode cpol cpha).rstN = s.rstN := rfl
@[simp] theorem State.installMode_blkClk (cpol cpha : Bool) : (s.installMode cpol cpha).blkClk = s.blkClk := rfl
@[simp] theorem State.installMode_env (cpol cpha : Bool) : (s.installMode cpol cpha).env = s.env := rfl
@[simp] theorem State.installMode_host (cpol cpha : Bool) : (s.installMode cpol cpha).host = s.host := rfl
@[simp] theorem State.installMode_replies (cpol cpha : Bool) : (s.installMode cpol cpha).replies = s.replies := rfl

/-! ### State.setOpen -/

@[simp] theorem State.setOpen_params (b : Bool) : (s.setOpen b).params = s.params := rfl
@[simp] theorem State.setOpen_arg0 (b : Bool) : (s.setOpen b).arg0 = s.arg0 := rfl
@[simp] theorem State.setOpen_arg1 (b : Bool) : (s.setOpen b).arg1 = s.arg1 := rfl
@[simp] theorem State.setOpen_result (b : Bool) : (s.setOpen b).result = s.result := rfl
@[simp] theorem State.setOpen_status (b : Bool) : (s.setOpen b).status = { s.status with csa := b } := rfl
@[simp] theorem State.setOpen_config (b : Bool) : (s.setOpen b).config = s.config := rfl
@[simp] theorem State.setOpen_div (b : Bool) : (s.setOpen b).div = s.div := rfl
@[simp] theorem State.setOpen_fcmd (b : Bool) : (s.setOpen b).fcmd = s.fcmd := rfl
@[simp] theorem State.setOpen_trace (b : Bool) : (s.setOpen b).trace = s.trace := rfl
@[simp] theorem State.setOpen_rxbuf (b : Bool) : (s.setOpen b).rxbuf = s.rxbuf := rfl
@[simp] theorem State.setOpen_txsr (b : Bool) : (s.setOpen b).txsr = s.txsr := rfl
@[simp] theorem State.setOpen_fsm (b : Bool) : (s.setOpen b).fsm = s.fsm := rfl
@[simp] theorem State.setOpen_rstN (b : Bool) : (s.setOpen b).rstN = s.rstN := rfl
@[simp] theorem State.setOpen_blkClk (b : Bool) : (s.setOpen b).blkClk = s.blkClk := rfl
@[simp] theorem State.setOpen_env (b : Bool) : (s.setOpen b).env = s.env := rfl
@[simp] theorem State.setOpen_host (b : Bool) : (s.setOpen b).host = s.host := rfl
@[simp] theorem State.setOpen_replies (b : Bool) : (s.setOpen b).replies = s.replies := rfl

end Sys2Proof.Machine
end

