-- ==== Sys2Proof/Laws/Ops.lean ====
section
/-! SUPPORT. What the shared operations do, once: the frame, a drained list of bytes, BURST, TRANSACT, and the common shape
of a command. -/

namespace Sys2Proof.Machine

variable (s : State)

/-- The events of one frame (R120, R130). -/
def frameEvents (s : State) (tx miso : Byte) : List WireEvent :=
  if s.config.hwcs then [.csFall, .frame tx miso s.config.cpol s.config.cpha s.div, .csRise]
  else [.frame tx miso s.config.cpol s.config.cpha s.div]

/-! ### The frame -/

theorem State.misoByte_congr {s t : State} (tx : Byte) (hr : t.config.rxen = s.config.rxen) (hp : t.params = s.params)
    (he : t.env = s.env) (ht : t.trace = s.trace) : t.misoByte tx = s.misoByte tx := by
  simp only [State.misoByte, State.drawnByte, hr, hp, he, ht]

/-- With a `SlaveByte` function given and RXEN = 1 the captured byte is that function's value (R15). -/
theorem State.misoByte_slaveGiven {s : State} (tx : Byte) (hr : s.config.rxen = true) (hg : s.params.slaveGiven = true) :
    s.misoByte tx = Config.slaveByte s.trace tx := by
  simp [State.misoByte, hr, hg]

/-- With none given and RXEN = 1 it is the byte the environment has decided (R15). -/
theorem State.misoByte_decided {s : State} {m : Byte} {rest : List Byte} (tx : Byte) (hr : s.config.rxen = true)
    (hg : s.params.slaveGiven = false) (he : s.env.slave = m :: rest) : s.misoByte tx = m := by
  simp [State.misoByte, State.drawnByte, hr, hg, he]

/-- With RXEN = 0 it is a free value (R129). -/
theorem State.misoByte_unwired {s : State} (tx : Byte) (hr : s.config.rxen = false) :
    s.misoByte tx = Config.freeByte s.env.draws := by
  simp [State.misoByte, hr]

theorem State.keepsOlder_congr {s t : State} (he : t.env = s.env) : t.keepsOlder = s.keepsOlder := by
  simp only [State.keepsOlder, he]

/-- Everything the start of a frame does, field by field (R120, R132 `TX_LOAD`). -/
theorem State.frameStart_eq (tx : Byte) : s.frameStart tx =
    { s with
      txsr := tx
      status := { s.status with busy := true }
      env := s.drawByte.env
      trace := s.trace ++ if s.config.hwcs then [.csFall] else [] } := by
  unfold State.frameStart State.hwSelect
  cases h : s.config.hwcs <;> simp [State.emit, State.setBusy, State.drawByte, h]

/-- Everything the end of a frame does, field by field (R120, R132 `TX_DONE`). -/
theorem State.frameEnd_eq (tx rx : Byte) : s.frameEnd tx rx =
    { s with
      trace := s.trace ++ (.frame tx rx s.config.cpol s.config.cpha s.div ::
        if s.config.hwcs then [.csRise] else [])
      rxbuf := s.captured rx
      status := { s.status with rovr := s.status.rovr || s.status.rxfull, rxfull := true, busy := false }
      env := if s.status.rxfull then s.drawSurvivor.env else s.env } := by
  unfold State.frameEnd State.capture State.captured State.hwSelect
  cases h : s.config.hwcs <;> cases h' : s.status.rxfull <;>
    simp [State.emit, State.setBusy, State.drawSurvivor, State.keepsOlder, h, h']

/-- Everything a frame does, field by field (R120). -/
theorem State.shiftByte_eq (tx : Byte) : s.shiftByte tx =
    { s with
      txsr := tx
      trace := s.trace ++ frameEvents s tx (s.misoByte tx)
      rxbuf := if s.status.rxfull && s.drawByte.keepsOlder then s.rxbuf else s.misoByte tx
      status := { s.status with rovr := s.status.rovr || s.status.rxfull, rxfull := true, busy := false }
      env := if s.status.rxfull then s.drawByte.drawSurvivor.env else s.drawByte.env } := by
  unfold State.shiftByte State.frameStart State.frameEnd State.capture State.captured State.hwSelect frameEvents
  cases h : s.config.hwcs <;> cases h' : s.status.rxfull <;>
    simp [State.emit, State.setBusy, State.drawByte, State.drawSurvivor, State.keepsOlder, h, h']

@[simp] theorem State.shiftByte_txsr (tx : Byte) : (s.shiftByte tx).txsr = tx := by simp [State.shiftByte_eq]
@[simp] theorem State.shiftByte_trace (tx : Byte) :
    (s.shiftByte tx).trace = s.trace ++ frameEvents s tx (s.misoByte tx) := by simp [State.shiftByte_eq]
@[simp] theorem State.shiftByte_rxbuf (tx : Byte) :
    (s.shiftByte tx).rxbuf = if s.status.rxfull && s.drawByte.keepsOlder then s.rxbuf else s.misoByte tx := by
  simp [State.shiftByte_eq]
@[simp] theorem State.shiftByte_status (tx : Byte) : (s.shiftByte tx).status =
    { s.status with rovr := s.status.rovr || s.status.rxfull, rxfull := true, busy := false } := by
  simp [State.shiftByte_eq]
@[simp] theorem State.shiftByte_env (tx : Byte) : (s.shiftByte tx).env =
    if s.status.rxfull then s.drawByte.drawSurvivor.env else s.drawByte.env := by simp [State.shiftByte_eq]
@[simp] theorem State.shiftByte_params (tx : Byte) : (s.shiftByte tx).params = s.params := by simp [State.shiftByte_eq]
@[simp] theorem State.shiftByte_arg0 (tx : Byte) : (s.shiftByte tx).arg0 = s.arg0 := by simp [State.shiftByte_eq]
@[simp] theorem State.shiftByte_arg1 (tx : Byte) : (s.shiftByte tx).arg1 = s.arg1 := by simp [State.shiftByte_eq]
@[simp] theorem State.shiftByte_result (tx : Byte) : (s.shiftByte tx).result = s.result := by simp [State.shiftByte_eq]
@[simp] theorem State.shiftByte_config (tx : Byte) : (s.shiftByte tx).config = s.config := by simp [State.shiftByte_eq]
@[simp] theorem State.shiftByte_div (tx : Byte) : (s.shiftByte tx).div = s.div := by simp [State.shiftByte_eq]
@[simp] theorem State.shiftByte_fcmd (tx : Byte) : (s.shiftByte tx).fcmd = s.fcmd := by simp [State.shiftByte_eq]
@[simp] theorem State.shiftByte_fsm (tx : Byte) : (s.shiftByte tx).fsm = s.fsm := by simp [State.shiftByte_eq]
@[simp] theorem State.shiftByte_rstN (tx : Byte) : (s.shiftByte tx).rstN = s.rstN := by simp [State.shiftByte_eq]
@[simp] theorem State.shiftByte_blkClk (tx : Byte) : (s.shiftByte tx).blkClk = s.blkClk := by simp [State.shiftByte_eq]
@[simp] theorem State.shiftByte_host (tx : Byte) : (s.shiftByte tx).host = s.host := by simp [State.shiftByte_eq]
@[simp] theorem State.shiftByte_replies (tx : Byte) : (s.shiftByte tx).replies = s.replies := by
  simp [State.shiftByte_eq]

/-! ### Commands -/

/-- A command is ignored while FAULT = 1 (R185). -/
theorem runCommand_ignored {i : Instr} {checks : List FaultCode} {effect : State → State} {s : State}
    (h : s.status.fault = true) : runCommand i checks effect s = .next s := by
  simp [runCommand, h]

/-- A command whose first failing check is `code` faults with it (R181, R183). -/
theorem runCommand_faults {i : Instr} {checks : List FaultCode} {effect : State → State} {s : State} {code : FaultCode}
    (h : s.status.fault = false) (hc : firstFault checks s = some code) :
    runCommand i checks effect s = .next (s.raiseFault code (encode i)) := by
  simp [runCommand, h, hc]

/-- A command none of whose checks fails has its effect (R180). -/
theorem runCommand_effect {i : Instr} {checks : List FaultCode} {effect : State → State} {s : State}
    (h : s.status.fault = false) (hc : firstFault checks s = none) :
    runCommand i checks effect s = .next (effect s) := by
  simp [runCommand, h, hc]

/-- Everything a command can do (R180, R181, R185): nothing, one fault, or its effect. -/
theorem runCommand_cases {i : Instr} {checks : List FaultCode} {effect : State → State} {s t : State}
    (h : runCommand i checks effect s = .next t) :
    (s.status.fault = true ∧ t = s) ∨
    (s.status.fault = false ∧ ∃ code, firstFault checks s = some code ∧ t = s.raiseFault code (encode i)) ∨
    (s.status.fault = false ∧ firstFault checks s = none ∧ t = effect s) := by
  unfold runCommand at h
  split at h
  · next hf => exact .inl ⟨hf, (Host.Outcome.next.inj h).symm⟩
  · next hf =>
    have hf : s.status.fault = false := by simpa using hf
    split at h
    · next code hc => exact .inr (.inl ⟨hf, code, hc, (Host.Outcome.next.inj h).symm⟩)
    · next hc => exact .inr (.inr ⟨hf, hc, (Host.Outcome.next.inj h).symm⟩)

end Sys2Proof.Machine
end

