-- ==== Sys2Proof/Laws/Exec.lean ====
section
/-! SUPPORT. exec, once for all commands: the checks and the effect of each, and everything exec can answer. -/

namespace Sys2Proof.Machine

/-- The checks of a command, in the order it writes them (R182, R183). -/
def checksOf : Instr → List FaultCode
  | .init _ _ => [.csOpen]
  | .setbaud => [.notInit, .csOpen, .baudZero, .divRange]
  | .setmode _ _ => [.notInit, .csOpen]
  | .wrbyte _ => [.notInit, .notEnabled, .noBaud]
  | .rdbyte => [.notInit, .rxEmpty]
  | .csassert => [.notInit, .hwcsConflict, .csOpen]
  | .csdeassert => [.notInit, .hwcsConflict, .csNotOpen]
  | .transactW _ _ _ => transferChecks
  | .transactR _ _ => transferChecks
  | .burst1 _ => transferChecks
  | .burst2 _ _ => transferChecks
  | .burst3 _ _ _ => transferChecks
  | .delay _ => []

/-- The effect of a command none of whose checks fails. -/
def effectOf : Instr → State → State
  | .init hwcs rxen, s => s.initialize hwcs rxen
  | .setbaud, s => s.installDivisor (divisor s.arg0 s.arg1)
  | .setmode cpol cpha, s => s.installMode cpol cpha
  | .wrbyte data, s => s.shiftByte data
  | .rdbyte, s => s.deliver
  | .csassert, s => (s.setOpen true).selOn
  | .csdeassert, s => (s.setOpen false).selOff
  | .transactW opc reg data, s => ((s.transactHead opc reg).shiftByte data).drain.transactTail
  | .transactR opc reg, s => ((s.transactHead opc reg).shiftByte 0#8).deliver.transactTail
  | .burst1 b0, s => s.burst [b0]
  | .burst2 b0 b1, s => s.burst [b0, b1]
  | .burst3 b0 b1 b2, s => s.burst [b0, b1, b2]
  | .delay us, s => s.emit (.wait .host us.toNat)

/-- Every command has the common shape (R180). -/
theorem exec_eq (i : Instr) (s : State) : exec i s = runCommand i (checksOf i) (effectOf i) s := by
  cases i <;> rfl

/-- Everything exec can answer: the state unchanged, one fault raised, or the command's effect. -/
theorem exec_cases {i : Instr} {s t : State} (h : exec i s = .next t) :
    (s.status.fault = true ∧ t = s) ∨
    (s.status.fault = false ∧ ∃ code, firstFault (checksOf i) s = some code ∧ t = s.raiseFault code (encode i)) ∨
    (s.status.fault = false ∧ firstFault (checksOf i) s = none ∧ t = effectOf i s) :=
  runCommand_cases (exec_eq i s ▸ h)

/-- A command none of whose checks fails has its effect. -/
theorem exec_effect {i : Instr} {s : State} (hf : s.status.fault = false)
    (hc : firstFault (checksOf i) s = none) : exec i s = .next (effectOf i s) := by
  rw [exec_eq, runCommand_effect hf hc]

/-- A command whose first failing check is `code` faults with it. -/
theorem exec_faults {i : Instr} {s : State} {code : FaultCode} (hf : s.status.fault = false)
    (hc : firstFault (checksOf i) s = some code) : exec i s = .next (s.raiseFault code (encode i)) := by
  rw [exec_eq, runCommand_faults hf hc]

/-- BURST and TRANSACT pass their checks exactly when the block is ready for them. -/
theorem transferChecks_pass {s : State} (h : TransferReady s) : firstFault transferChecks s = none := by
  obtain ⟨-, hc, hh, ho, he, hd⟩ := h
  simp [firstFault, transferChecks, faultHolds, hc, hh, ho, he, hd]

/-- Divisors: the shift right by one is the floor of the half (R13, R102). -/
theorem divisor_eq (s : State) : divisor s.arg0 s.arg1 = computedDivisor s := by
  simp [divisor, computedDivisor, Nat.shiftRight_eq_div_pow]

end Sys2Proof.Machine
end

