-- ==== Sys2Proof/Laws/PerInstr.lean ====
section
/-! SUPPORT. Statements about commands as syntax, one lemma per constructor. -/

namespace Sys2Proof.Laws.RowOfTable

/-- The command's word is a word of the row of the opcode table that bears its mnemonic (spec/30_encoding.md R82 to R90). -/
def Statement (i : Instr) : Prop :=
  ∃ r ∈ opcodeTable, r.mnemonic = i.mnemonic ∧ r.hits (encode i) = true

theorem init (hwcs rxen : Bool) : Statement (.init hwcs rxen) :=
  ⟨opcodeTable[0], by simp [opcodeTable], rfl, by cases hwcs <;> cases rxen <;> decide⟩

theorem setbaud : Statement .setbaud := ⟨opcodeTable[1], by simp [opcodeTable], rfl, by decide⟩

theorem setmode (cpol cpha : Bool) : Statement (.setmode cpol cpha) :=
  ⟨opcodeTable[2], by simp [opcodeTable], rfl, by cases cpol <;> cases cpha <;> decide⟩

theorem wrbyte (data : Byte) : Statement (.wrbyte data) := by
  refine ⟨opcodeTable[3], by simp [opcodeTable], rfl, ?_⟩
  rw [encode_wrbyte, hits_bytes _ _ _ _ _ 0xFF#8 0xFF#8 0xFF#8 0#8 0x40#8 0#8 0#8 0#8 rfl rfl]
  simp

theorem rdbyte : Statement .rdbyte := ⟨opcodeTable[4], by simp [opcodeTable], rfl, by decide⟩

theorem csassert : Statement .csassert := ⟨opcodeTable[5], by simp [opcodeTable], rfl, by decide⟩

theorem csdeassert : Statement .csdeassert := ⟨opcodeTable[6], by simp [opcodeTable], rfl, by decide⟩

theorem transactW (opc reg data : Byte) : Statement (.transactW opc reg data) := by
  refine ⟨opcodeTable[7], by simp [opcodeTable], rfl, ?_⟩
  rw [encode_transactW, hits_bytes _ _ _ _ _ 0xFF#8 0#8 0#8 0#8 0x81#8 0#8 0#8 0#8 rfl rfl]
  simp

theorem transactR (opc reg : Byte) : Statement (.transactR opc reg) := by
  refine ⟨opcodeTable[8], by simp [opcodeTable], rfl, ?_⟩
  rw [encode_transactR, hits_bytes _ _ _ _ _ 0xFF#8 0#8 0#8 0xFF#8 0x80#8 0#8 0#8 0#8 rfl rfl]
  simp

theorem burst1 (b0 : Byte) : Statement (.burst1 b0) := by
  refine ⟨opcodeTable[9], by simp [opcodeTable], rfl, ?_⟩
  rw [encode_burst1, hits_bytes _ _ _ _ _ 0xFF#8 0#8 0xFF#8 0xFF#8 0x94#8 0#8 0#8 0#8 rfl rfl]
  simp

theorem burst2 (b0 b1 : Byte) : Statement (.burst2 b0 b1) := by
  refine ⟨opcodeTable[10], by simp [opcodeTable], rfl, ?_⟩
  rw [encode_burst2, hits_bytes _ _ _ _ _ 0xFF#8 0#8 0#8 0xFF#8 0x98#8 0#8 0#8 0#8 rfl rfl]
  simp

theorem burst3 (b0 b1 b2 : Byte) : Statement (.burst3 b0 b1 b2) := by
  refine ⟨opcodeTable[11], by simp [opcodeTable], rfl, ?_⟩
  rw [encode_burst3, hits_bytes _ _ _ _ _ 0xFF#8 0#8 0#8 0#8 0x9C#8 0#8 0#8 0#8 rfl rfl]
  simp

theorem delay (us : BitVec 24) : Statement (.delay us) := by
  refine ⟨opcodeTable[12], by simp [opcodeTable], rfl, ?_⟩
  rw [encode_delay, hits_bytes _ _ _ _ _ 0xFF#8 0#8 0#8 0#8 0xA0#8 0#8 0#8 0#8 rfl rfl]
  simp

end Sys2Proof.Laws.RowOfTable
end

