-- ==== Sys2Proof/Laws/Sequencer.lean ====
section
/-! SUPPORT. The sequencer, once: what its shift register assembles, and what it does with a frame. -/

namespace Sys2Proof.Machine

/-- `setBit` sets its bit and keeps the others. -/
theorem getLsbD_setBit (v : Byte) {k : Nat} (b : Bool) (i : Nat) (hk : k < 8) :
    (setBit v k b).getLsbD i = if i = k then b else v.getLsbD i := by
  by_cases h : i = k
  · subst h
    cases b <;> simp [setBit, hk]
  · by_cases hi : i < 8
    · cases b <;> simp [setBit, h, hi] <;> (intros; omega)
    · rw [BitVec.getLsbD_of_ge _ _ (by omega), BitVec.getLsbD_of_ge _ _ (by omega)]
      simp [h]

/-- What the two edges of bit `k` leave of the bytes of the shifter: bit `k` of MISO in the received byte (R121, R122). -/
theorem Shifting.edges_rx (sh : Shifting) (cpol cpha : Bool) (k : Nat) :
    ((sh.leadEdge cpol cpha k).trailEdge cpol cpha k).rx = setBit sh.rx k (sh.miso.getLsbD k) := by
  cases cpha <;> rfl

@[simp] theorem Shifting.edges_miso (sh : Shifting) (cpol cpha : Bool) (k : Nat) :
    ((sh.leadEdge cpol cpha k).trailEdge cpol cpha k).miso = sh.miso := by
  cases cpha <;> rfl

@[simp] theorem Shifting.edges_tx (sh : Shifting) (cpol cpha : Bool) (k : Nat) :
    ((sh.leadEdge cpol cpha k).trailEdge cpol cpha k).tx = sh.tx := by
  cases cpha <;> rfl

/-- The bits `k` down to 0 of MISO replace those of the received byte (R123). -/
theorem Shifting.bitsFrom_rx (cpol cpha : Bool) (i k : Nat) (hk : k < 8) (sh : Shifting) :
    (sh.bitsFrom cpol cpha k).rx.getLsbD i = if i ≤ k then sh.miso.getLsbD i else sh.rx.getLsbD i := by
  induction k generalizing sh with
  | zero =>
    rw [Shifting.bitsFrom, Shifting.edges_rx, getLsbD_setBit _ _ _ hk]
    by_cases h : i = 0 <;> simp [h]
  | succ k ih =>
    rw [Shifting.bitsFrom, ih (by omega), Shifting.edges_miso, Shifting.edges_rx, getLsbD_setBit _ _ _ hk]
    by_cases h : i = k + 1
    · simp [h]
    · simp [h, show i ≤ k + 1 ↔ i ≤ k by omega]

@[simp] theorem Shifting.bitsFrom_tx (cpol cpha : Bool) (k : Nat) (sh : Shifting) :
    (sh.bitsFrom cpol cpha k).tx = sh.tx := by
  induction k generalizing sh with
  | zero => rw [Shifting.bitsFrom, Shifting.edges_tx]
  | succ k ih => rw [Shifting.bitsFrom, ih, Shifting.edges_tx]

/-- The byte a frame assembles is the byte on MISO (R123). -/
@[simp] theorem frameBits_rx (tx miso : Byte) (cpol cpha : Bool) : (frameBits tx miso cpol cpha).rx = miso := by
  apply BitVec.eq_of_getLsbD_eq
  intro i hi
  rw [frameBits, Shifting.bitsFrom_rx _ _ _ _ (by omega), if_pos (by omega)]
  rfl

@[simp] theorem frameBits_tx (tx miso : Byte) (cpol cpha : Bool) : (frameBits tx miso cpol cpha).tx = tx := by
  rw [frameBits, Shifting.bitsFrom_tx]
  rfl

/-- Running the sequencer goes in parts. -/
theorem State.seqRun_add (s : State) (m n : Nat) : s.seqRun (m + n) = (s.seqRun m).seqRun n := by
  induction m generalizing s with
  | zero => simp [State.seqRun]
  | succ m ih => rw [Nat.add_right_comm, State.seqRun, ih]; rfl

/-- The `TX_BIT` states from bit `k` make the edges of those bits and end in `TX_DONE` (R132). -/
theorem State.seqRun_bits (s : State) (c : Caller) (k : Nat) (sh : Shifting) :
    ({ s with fsm := .txBit k .lead sh c } : State).seqRun (2 * (k + 1)) =
      { s with fsm := .txDone (sh.bitsFrom s.config.cpol s.config.cpha k) c } := by
  induction k generalizing sh with
  | zero => rfl
  | succ k ih =>
    rw [show 2 * (k + 1 + 1) = 2 + 2 * (k + 1) by omega, State.seqRun_add]
    exact ih _

/-- From `TX_LOAD`, seventeen states lead to `TX_DONE` with the frame's edges made (R132). -/
theorem State.seqRun_load (s : State) (c : Caller) (tx : Byte) :
    ({ s with fsm := .txLoad tx c } : State).seqRun 17 =
      { s.frameStart tx with
        fsm := .txDone (frameBits tx (s.misoByte tx) s.config.cpol s.config.cpha) c } := by
  rw [show 17 = 1 + 2 * (7 + 1) from rfl, State.seqRun_add]
  have start : ({ s with fsm := .txLoad tx c } : State).seqRun 1 =
      { s.frameStart tx with
        fsm := .txBit 7 .lead (shiftingStart tx (s.misoByte tx) s.config.cpol s.config.cpha) c } := by
    simp only [State.seqRun, State.seqStep, State.frameStart_eq]
    rfl
  rw [start, State.seqRun_bits]
  simp [State.frameStart_eq, frameBits]

end Sys2Proof.Machine
end

