-- ==== Sys2Proof/Laws/Step.lean ====
section
/-! SUPPORT. A step, once: what it serves at a command boundary, what the host window answers, and what the sequencer keeps
in the middle of a command. -/

namespace Sys2Proof.Machine

variable {s : State}

/-! ### The host window -/

/-- The offsets of the window are those of its registers (R24). -/
theorem regOfOffset_eq_some {off : Int} {r : Reg} : regOfOffset off = some r ↔ off = offsetOf r := by
  refine ⟨fun h => ?_, fun h => by subst h; cases r <;> rfl⟩
  unfold regOfOffset at h
  repeat (split at h; · cases h; assumption)
  cases h

/-- An aligned offset that is no register's is outside the window (R24, R63). -/
theorem regOfOffset_eq_none {off : Int} (ha : off % 4 = 0) (h : regOfOffset off = none) : off < 0 ∨ 0x1C < off := by
  unfold regOfOffset at h
  repeat (split at h; · cases h)
  omega

/-- An access addresses a register exactly when it is 4 bytes wide at that register's offset (R62, R63). -/
theorem regAt_eq_ok {off : Int} {width : Nat} {r : Reg} : regAt off width = .ok r ↔ width = 4 ∧ off = offsetOf r := by
  refine ⟨fun h => ?_, fun ⟨hw, ho⟩ => by subst hw ho; cases r <;> rfl⟩
  unfold regAt at h
  split at h
  · cases h
  · split at h
    · cases h
    · split at h
      · next hw _ r' hr => cases h; exact ⟨by omega, regOfOffset_eq_some.1 hr⟩
      · cases h

/-- A refused address, by its width and offset (R63). -/
theorem regAt_eq_error {off : Int} {width : Nat} {why : Refusal} (h : regAt off width = .error why) :
    width ≠ 4 ∨ off % 4 ≠ 0 ∨ off < 0 ∨ 0x1C < off := by
  unfold regAt at h
  split at h
  · omega
  · split at h
    · omega
    · split at h
      · cases h
      · next ha _ hn => exact .inr (.inr (regOfOffset_eq_none (by omega) hn))

/-- A block that is out of reset with its clock settled takes accesses (R77, R210). -/
theorem accessGate_atBoundary (h : AtBoundary s) : accessGate s = none := by
  obtain ⟨-, hr, hc⟩ := h
  simp [accessGate, hr, hc]

/-- A read at a register's offset, while the block takes accesses (R61). -/
theorem hostRead_reg (h : AtBoundary s) (r : Reg) :
    hostRead (offsetOf r) 4 s =
      match s.readReg r with
      | some v => .next (s.reply (.data v))
      | none => .refused .readOfCmd := by
  have reg : regAt (offsetOf r) 4 = .ok r := regAt_eq_ok.2 ⟨rfl, rfl⟩
  cases hv : s.readReg r <;> simp only [hostRead, accessGate_atBoundary h, reg, hv]

/-- A write at a register's offset, while the block takes accesses (R61). -/
theorem hostWrite_reg (h : AtBoundary s) (r : Reg) (v : Word) :
    hostWrite (offsetOf r) 4 v s = completeWrite (writeReg r v s) := by
  simp only [hostWrite, accessGate_atBoundary h, regAt_eq_ok.2 ⟨rfl, rfl⟩]

/-- A word that decodes runs its command; while FAULT = 1 both sides do nothing (R180, R185). -/
theorem execute_command {w : Word} {i : Instr} (h : decode w = .command i) : execute w s = exec i s := by
  rw [execute]
  split
  · next hf => rw [exec_eq, runCommand_ignored hf]
  · rw [h]

/-- Everything a command word can do: nothing, ILLEGAL, or what its command does (R180). -/
theorem execute_cases {w : Word} {t : State} (h : execute w s = .next t) :
    t = s ∨ (s.status.fault = false ∧ t = s.raiseFault .illegal w) ∨ ∃ i, decode w = .command i ∧ exec i s = .next t := by
  unfold execute at h
  split at h
  · exact .inl (Host.Outcome.next.inj h).symm
  · next hf =>
    split at h
    · exact .inr (.inl ⟨by simpa using hf, (Host.Outcome.next.inj h).symm⟩)
    · next i hi => exact .inr (.inr ⟨i, hi, h⟩)

/-! ### A step at a command boundary -/

/-- A step at a command boundary serves the host's next step (R71, R72). -/
theorem step_served {h : HostStep} {rest : List HostStep} (hi : s.fsm = .idle) (hh : s.host = h :: rest) :
    step s = serve h { s with host := rest } := by
  rw [step, tick, if_pos hi, boundaryStep, hh]

/-- With nothing from the host the block waits (R212). -/
theorem step_waits (hi : s.fsm = .idle) (hh : s.host = []) : step s = .next s := by
  rw [step, tick, if_pos hi, boundaryStep, hh]

/-- Everything serving a host step can leave, up to the replies: the state unchanged, a new ARG0, ARG1, `rst_n` or clock
gate, a reset, or a command word executed. -/
theorem serve_cases {h : HostStep} {t : State} (hs : serve h s = .next t) :
    (∃ r, t = s.reply r) ∨ (∃ v, t = { s with arg0 := v }.reply .done) ∨ (∃ v, t = { s with arg1 := v }.reply .done) ∨
    (∃ w u, execute w s = .next u ∧ t = u.reply .done) ∨
    (h = .rstLow ∧ t = s.applyReset false) ∨ t = { s with rstN := true } ∨ (∃ c, t = { s with blkClk := c }) := by
  cases h with
  | read off width =>
    rw [serve, hostRead] at hs
    split at hs
    · cases hs
    · split at hs
      · cases hs
      · split at hs
        · exact .inl ⟨_, (Host.Outcome.next.inj hs).symm⟩
        · cases hs
  | write off width v =>
    rw [serve, hostWrite] at hs
    split at hs
    · cases hs
    · split at hs
      · cases hs
      · next r _ =>
        cases r with
        | cmd =>
          rw [writeReg] at hs
          cases hx : execute v s with
          | next u =>
            rw [hx] at hs
            exact .inr (.inr (.inr (.inl ⟨v, u, hx, (Host.Outcome.next.inj hs).symm⟩)))
          | fault r => rw [hx] at hs; cases hs
          | refused r => rw [hx] at hs; cases hs
        | arg0 => exact .inr (.inl ⟨v, (Host.Outcome.next.inj hs).symm⟩)
        | arg1 => exact .inr (.inr (.inl ⟨v, (Host.Outcome.next.inj hs).symm⟩))
        | result => cases hs
        | status => cases hs
        | config => cases hs
        | div => cases hs
        | fcmd => cases hs
  | rstLow => exact .inr (.inr (.inr (.inr (.inl ⟨rfl, (Host.Outcome.next.inj hs).symm⟩))))
  | rstHigh => exact .inr (.inr (.inr (.inr (.inr (.inl (Host.Outcome.next.inj hs).symm)))))
  | gateClose => exact .inr (.inr (.inr (.inr (.inr (.inr ⟨_, (Host.Outcome.next.inj hs).symm⟩)))))
  | gateOpen => exact .inr (.inr (.inr (.inr (.inr (.inr ⟨_, (Host.Outcome.next.inj hs).symm⟩)))))
  | gateSettled => exact .inr (.inr (.inr (.inr (.inr (.inr ⟨_, (Host.Outcome.next.inj hs).symm⟩)))))

/-! ### A step in the middle of a command -/

/-- A step in the middle of a command performs one state of the sequencer, or is stuck (R72, R211). -/
theorem step_midCommand {t : State} (hi : s.fsm ≠ .idle) (h : step s = .next t) : t = s.seqStep := by
  rw [step, tick, if_neg hi, midCommandStep] at h
  split at h
  · exact (Host.Outcome.next.inj h).symm
  · split at h
    · cases h
    · exact (Host.Outcome.next.inj h).symm

/-- What a state of the sequencer keeps: the operands and the host's side; and it adds to the trace or leaves it. -/
theorem seqStep_keeps (s : State) :
    s.seqStep.arg0 = s.arg0 ∧ s.seqStep.arg1 = s.arg1 ∧ s.seqStep.host = s.host ∧ s.seqStep.replies = s.replies ∧
      ∃ events, s.seqStep.trace = s.trace ++ events := by
  unfold State.seqStep
  split <;> (try simp [State.frameStart_eq])
  next sh c h =>
    cases c <;> simp [State.resume, State.frameEnd_eq]
    split <;> simp

end Sys2Proof.Machine
end

