-- ==== Sys2Proof/Machine/HostNotation.lean ====
section
/-! DEFINITION. The notation of host programs (spec/30_encoding.md R97) and the pseudo-instructions (R98), as the host
steps they stand for. Host control flow is the host's. -/

namespace Sys2Proof.Machine

/-- `W <REG>, <u32>` (R97). -/
def hostW (r : Reg) (v : Word) : HostStep := .write (offsetOf r) 4 v

/-- `R <REG>` (R97). -/
def hostR (r : Reg) : HostStep := .read (offsetOf r) 4

/-- A command mnemonic on its own line: `W CMD, <its encoding>` (R97). -/
def hostCmd (i : Instr) : HostStep := hostW .cmd (encode i)

/-- `setbaud <f>, <b>` (R98). -/
def pseudoSetbaud (f b : Word) : List HostStep := [hostW .arg0 f, hostW .arg1 b, hostCmd .setbaud]

/-- `readbyte -> t` (R98). -/
def pseudoReadbyte : List HostStep := [hostCmd .rdbyte, hostR .result]

/-- `xfer <d> -> t` (R98). -/
def pseudoXfer (d : Byte) : List HostStep := [hostCmd (.wrbyte d), hostCmd .rdbyte, hostR .result]

/-- `regwrite <opc>, <reg>, <d>` (R98). -/
def pseudoRegwrite (opc reg d : Byte) : List HostStep := [hostCmd (.transactW opc reg d)]

/-- `regread <opc>, <reg> -> t` (R98). -/
def pseudoRegread (opc reg : Byte) : List HostStep := [hostCmd (.transactR opc reg), hostR .result]

/-- `cfgentry <opc>, <reg>, <v>, <us>` (R98, R148). -/
def pseudoCfgentry (opc reg v : Byte) (us : BitVec 24) : List HostStep :=
  [hostCmd (.burst3 opc reg v), hostCmd (.delay us)]

/-- One entry of the configuration table with its propagation wait `T_CFG_US` (R148, R222). -/
def pseudoTableEntry (p : Params) (opc reg v : Byte) : List HostStep := pseudoCfgentry opc reg v p.tCfgUs

/-- `checkfault -> t` (R98). -/
def pseudoCheckfault : List HostStep := [hostR .status]

end Sys2Proof.Machine
end

