-- ==== Sys2Proof/Tests/Slice0.lean ====
section
/-! SUPPORT. Tests of the model, and a witness for every statement that has hypotheses. The expected values are those of
spec/95_test_vectors.md (named by their ids) or of the rules cited; none was taken from the model. -/

open Sys2Proof Sys2Proof.Machine

namespace Sys2Proof.Tests

/-! ### Small states -/

/-- The example parameters of spec/95_test_vectors.md: 16 MHz, DIV_WIDTH = 16, T_CFG_US = 100000; the others small. -/
def params16 : Params :=
  { baseIndex := 2, divWidthOver8 := 8, fClkOver1 := 15999999, clkPerUsOver1 := 15, tCssCycOver1 := 3,
    tSettleUsOver1 := 19, tCfgUs := 100000#24, slaveGiven := false }

/-- Right after reset, with those parameters. -/
def fresh : State := { State.reset with params := params16 }

/-- After `INIT hwcs=0, rxen=1` (vector I3). -/
def inited : State := { fresh with config := { ConfigReg.reset with cfg := true, rxen := true } }

/-- `Ready(1, 1, 16)` (R217), with the slave's next bytes and the survivors of the next overflows decided. -/
def readyWith (slave : List Byte) (survivors : List Survivor) : State :=
  { inited with
    config := { cfg := true, en := true, hwcs := false, rxen := true, cpha := true, cpol := true, sckpu := true }
    div := 16#32
    env := { draws := 0, slave := slave, survivors := survivors } }

/-- `Ready(1, 1, 16)` with three decided bytes. -/
def ready : State := readyWith [0xFF#8, 0xFF#8, 0x1A#8] []

/-- A state of a model that is given a `SlaveByte` function. -/
def modelled (s : State) : State := { s with params := { s.params with slaveGiven := true } }

/-- A state with a byte pending in RXBUF. -/
def pending (s : State) (b : Byte) : State := { s with rxbuf := b, status := { s.status with rxfull := true } }

/-- A state with a software transaction open. -/
def opened (s : State) : State := { s with status := { s.status with csa := true } }

/-- A state with the select pin wired to the internal select logic. -/
def wired (s : State) : State := { s with config := { s.config with hwcs := true } }

/-- A state that has recorded the fault NOT_INIT of the word 0x400000A5 (vector W7). -/
def faultyState (s : State) : State :=
  { s with status := { s.status with fault := true, fcode := 2#4 }, fcmd := 0x400000A5#32 }

/-- A state with these operands of SETBAUD. -/
def operands (s : State) (f b : Word) : State := { s with arg0 := f, arg1 := b }

/-- A state with these host steps to come. -/
def hosted (s : State) (steps : List HostStep) : State := { s with host := steps }

/-- The state an outcome leaves; the first state where it stops. -/
def endOf (s : State) : Host.Outcome State Fault Refusal → State
  | .next t => t
  | .fault _ => s
  | .refused _ => s

/-- The state after a command word. -/
def after (w : Word) (s : State) : State := endOf s (execute w s)

/-- What the host reads in STATUS and CONFIG after a command word. -/
def statusAfter (w : Word) (s : State) : Word := statusWord (after w s).status

def configAfter (w : Word) (s : State) : Word := configWord (after w s).config

/-! ### Well-formedness of assembler lines (R96): one ill-formed line per check -/

theorem test_wf_accepts : (AsmLine.init 0 1).wellFormed = true ∧ (AsmLine.burst [255, 0, 1]).wellFormed = true ∧
    (AsmLine.delay 16777215).wellFormed = true ∧ (AsmLine.transactW 0x46 255 0).wellFormed = true := by decide

theorem test_wf_refuses_flag : (AsmLine.init 0 2).wellFormed = false ∧ (AsmLine.setmode 2 0).wellFormed = false := by
  decide

theorem test_wf_refuses_byte : (AsmLine.wrbyte 256).wellFormed = false ∧
    (AsmLine.transactR 0x47 256).wellFormed = false ∧ (AsmLine.burst [1, 256]).wellFormed = false := by decide

theorem test_wf_refuses_delay : (AsmLine.delay 16777216).wellFormed = false := by decide

theorem test_wf_refuses_burst_count : (AsmLine.burst []).wellFormed = false ∧
    (AsmLine.burst [1, 2, 3, 4]).wellFormed = false := by decide

theorem test_wf_assembles : (AsmLine.transactW 0x46 0x05 0x02).assemble = some (.transactW 0x46#8 0x05#8 0x02#8) ∧
    (AsmLine.burst [0x12, 0x34]).assemble = some (.burst2 0x12#8 0x34#8) ∧ (AsmLine.burst []).assemble = none := by decide

/-! ### Decoding: one word per row, written bit by bit from R82 to R90 (the words of R99) -/

theorem test_decode_init : decode 0b0001_0000000000000000000000000010#32 = .command (.init false true) := by decide

theorem test_decode_setbaud : decode 0b0010_0000000000000000000000000000#32 = .command .setbaud := by decide

theorem test_decode_setmode : decode 0b0011_0000000000000000000000000010#32 = .command (.setmode true false) := by decide

theorem test_decode_wrbyte : decode 0b0100_00000000000000000000_10100101#32 = .command (.wrbyte 0xA5#8) := by decide

theorem test_decode_rdbyte : decode 0b0101_0000000000000000000000000000#32 = .command .rdbyte := by decide

theorem test_decode_csassert : decode 0b0110_0000000000000000000000000000#32 = .command .csassert := by decide

theorem test_decode_csdeassert : decode 0b0111_0000000000000000000000000000#32 = .command .csdeassert := by decide

theorem test_decode_transactW : decode 0b1000_000_1_01000110_00000101_00000010#32 =
    .command (.transactW 0x46#8 0x05#8 0x02#8) := by decide

theorem test_decode_transactR : decode 0b1000_000_0_01000111_00001001_00000000#32 =
    .command (.transactR 0x47#8 0x09#8) := by decide

theorem test_decode_burst1 : decode 0b1001_01_00_10101011_00000000_00000000#32 = .command (.burst1 0xAB#8) := by decide

theorem test_decode_burst2 : decode 0b1001_10_00_00010010_00110100_00000000#32 = .command (.burst2 0x12#8 0x34#8) := by
  decide

theorem test_decode_burst3 : decode 0b1001_11_00_01000110_00000101_00000010#32 =
    .command (.burst3 0x46#8 0x05#8 0x02#8) := by decide

theorem test_decode_delay : decode 0b1010_0000_000000011000011010100000#32 = .command (.delay 100000#24) := by decide

/-- Vectors X1 to X8, I9, M7, W14, BU5 to BU8, T6, T7, DL3: illegal words. -/
theorem test_decode_illegal :
    [0x00000000#32, 0xB0000000#32, 0xFFFFFFFF#32, 0x20000001#32, 0x50000001#32, 0x60000001#32, 0x70000100#32,
      0x10000008#32, 0x10000004#32, 0x30000004#32, 0x40000100#32, 0x90000000#32, 0x94AB0001#32, 0x98123401#32,
      0x9D000000#32, 0x80470901#32, 0x82000000#32, 0xA1000000#32].map decode =
    [.illegal .unassignedOp, .illegal .unassignedOp, .illegal .unassignedOp, .illegal .reservedBits,
      .illegal .reservedBits, .illegal .reservedBits, .illegal .reservedBits, .illegal .reservedBits,
      .illegal .reservedBits, .illegal .reservedBits, .illegal .reservedBits, .illegal .burstCountZero,
      .illegal .reservedBits, .illegal .reservedBits, .illegal .reservedBits, .illegal .reservedBits,
      .illegal .reservedBits, .illegal .reservedBits] := by decide

theorem test_decodeTableWord : decodeTableWord 32 0xA00186A0 = some (.delay 100000#24) ∧
    decodeTableWord 32 0x80470901 = none := by decide

/-! ### One step per instruction -/

/-- Vectors I3 and I6. -/
theorem test_init_configures : configAfter 0x10000002#32 fresh = 0x09#32 ∧ configAfter 0x10000002#32 ready = 0x79#32 ∧
    (after 0x10000002#32 ready).div = 16#32 := by decide

/-- Vectors I7 and I8. -/
theorem test_init_clears_or_faults :
    statusAfter 0x10000002#32 { ready with status := { Status.reset with rxfull := true, rovr := true } } = 0#32 ∧
    statusAfter 0x10000002#32 (opened ready) = 0x418#32 := by decide

/-- Vectors B1, B3, B6, B12. -/
theorem test_setbaud_rounds_half_up :
    (after 0x20000000#32 (operands inited 16000000#32 1000000#32)).div = 16#32 ∧
    (after 0x20000000#32 (operands inited 5#32 2#32)).div = 3#32 ∧
    (after 0x20000000#32 (operands inited 1#32 2#32)).div = 1#32 ∧
    (after 0x20000000#32 (operands inited 10000000#32 4000000#32)).div = 3#32 := by decide

/-- Vectors B7, B16, B17 (DIV_WIDTH = 16), B21. -/
theorem test_setbaud_faults : statusAfter 0x20000000#32 (operands inited 1#32 3#32) = 0x710#32 ∧
    statusAfter 0x20000000#32 (operands inited 7#32 0#32) = 0x610#32 ∧
    statusAfter 0x20000000#32 (operands inited 0xFFFFFFFF#32 1#32) = 0x710#32 ∧
    statusAfter 0x20000000#32 (operands fresh 16000000#32 0#32) = 0x210#32 := by decide

/-- Vectors M1 to M4. -/
theorem test_setmode_modes : configAfter 0x30000000#32 inited = 0x0B#32 ∧ configAfter 0x30000001#32 inited = 0x1B#32 ∧
    configAfter 0x30000002#32 inited = 0x6B#32 ∧ configAfter 0x30000003#32 inited = 0x7B#32 := by decide

/-- Vectors M6 and M8. -/
theorem test_setmode_without_init_or_baud : statusAfter 0x30000003#32 fresh = 0x210#32 ∧
    statusAfter 0x40000000#32 (after 0x30000003#32 inited) = 0x910#32 := by decide

/-- Vector W1. -/
theorem test_wrbyte_frame :
    (after 0x400000A5#32 (readyWith [0x3C#8] [])).trace = [.frame 0xA5#8 0x3C#8 true true 16#32] ∧
    (after 0x400000A5#32 (readyWith [0x3C#8] [])).rxbuf = 0x3C#8 ∧
    statusAfter 0x400000A5#32 (readyWith [0x3C#8] []) = 0x2#32 := by decide

/-- Vectors W4 (both survivors) and W10. -/
theorem test_wrbyte_overflow_and_select :
    (after 0x40000022#32 (pending (readyWith [0x22#8] [.older]) 0x11#8)).rxbuf = 0x11#8 ∧
    (after 0x40000022#32 (pending (readyWith [0x22#8] [.newer]) 0x11#8)).rxbuf = 0x22#8 ∧
    statusAfter 0x40000022#32 (pending (readyWith [0x22#8] [.newer]) 0x11#8) = 0x6#32 ∧
    (after 0x4000005A#32 (wired (readyWith [0x77#8] []))).trace =
      [.csFall, .frame 0x5A#8 0x77#8 true true 16#32, .csRise] := by decide

/-- R15: a `SlaveByte` function that is given answers the frame, whatever else is decided. -/
theorem test_slave_model_answers : (modelled ready).misoByte 0xA5#8 = Config.slaveByte [] 0xA5#8 := rfl

/-- Vectors W2 and W3. -/
theorem test_rdbyte_delivers_once : (after 0x50000000#32 (pending ready 0x3C#8)).result = 0x3C#8 ∧
    statusAfter 0x50000000#32 (pending ready 0x3C#8) = 0#32 ∧ statusAfter 0x50000000#32 ready = 0xA10#32 := by decide

/-- Vectors CS1 and CS3. -/
theorem test_csassert_opens : statusAfter 0x60000000#32 ready = 0x8#32 ∧
    (after 0x60000000#32 ready).trace = [.csFall, .wait .css 4] ∧ csN (after 0x60000000#32 ready) = .low ∧
    statusAfter 0x60000000#32 (opened ready) = 0x418#32 := by decide

/-- Vectors CS5, CS6, CS7. -/
theorem test_csassert_needs_software_select : statusAfter 0x60000000#32 (wired inited) = 0x310#32 ∧
    statusAfter 0x60000000#32 fresh = 0x210#32 ∧ statusAfter 0x60000000#32 inited = 0x8#32 := by decide

/-- Vectors CS2 and CS4. -/
theorem test_csdeassert_closes : statusAfter 0x70000000#32 (opened ready) = 0#32 ∧
    (after 0x70000000#32 (opened ready)).trace = [.csRise] ∧ csN (after 0x70000000#32 (opened ready)) = .high ∧
    statusAfter 0x70000000#32 ready = 0x510#32 := by decide

/-- Vector T1. -/
theorem test_transactW_trace : (after 0x81460A01#32 ready).trace =
      [.wait .settle 20, .csFall, .wait .css 4, .frame 0x46#8 0xFF#8 true true 16#32,
        .frame 0x0A#8 0xFF#8 true true 16#32, .frame 0x01#8 0x1A#8 true true 16#32, .csRise, .wait .settle 20] ∧
    (after 0x81460A01#32 ready).result = 0#8 ∧ statusAfter 0x81460A01#32 ready = 0#32 := by decide

/-- Vectors T8 and T9 on the write form. -/
theorem test_transactW_faults : statusAfter 0x81460A01#32 inited = 0x810#32 ∧
    statusAfter 0x81460A01#32 (wired inited) = 0x310#32 := by decide

/-- Vector T2 (S7). -/
theorem test_transactR_result : (after 0x80470900#32 ready).result = 0x1A#8 ∧
    statusAfter 0x80470900#32 ready = 0#32 ∧
    (after 0x80470900#32 ready).trace =
      [.wait .settle 20, .csFall, .wait .css 4, .frame 0x47#8 0xFF#8 true true 16#32,
        .frame 0x09#8 0xFF#8 true true 16#32, .frame 0x00#8 0x1A#8 true true 16#32, .csRise, .wait .settle 20] := by
  decide

/-- Vectors T3 and CS9. -/
theorem test_transactR_pending_byte :
    (after 0x80470900#32 (pending (readyWith [0x11#8, 0x22#8, 0x33#8] [.older]) 0x55#8)).result = 0x33#8 ∧
    statusAfter 0x80470900#32 (pending (readyWith [0x11#8, 0x22#8, 0x33#8] [.older]) 0x55#8) = 0x4#32 ∧
    statusAfter 0x80470900#32 (opened ready) = 0x418#32 := by decide

/-- Vector BU1. -/
theorem test_burst1 : (after 0x94AB0000#32 ready).trace =
      [.csFall, .wait .css 4, .frame 0xAB#8 0xFF#8 true true 16#32, .csRise] ∧
    statusAfter 0x94AB0000#32 ready = 0#32 := by decide

/-- Vector BU2. -/
theorem test_burst2 : (after 0x98123400#32 ready).trace =
      [.csFall, .wait .css 4, .frame 0x12#8 0xFF#8 true true 16#32, .frame 0x34#8 0xFF#8 true true 16#32, .csRise] := by
  decide

/-- Vectors BU3, BU4. -/
theorem test_burst3 :
    (after 0x9C460502#32 { ready with result := 0x1A#8 }).result = 0x1A#8 ∧
    statusAfter 0x9C460502#32 (pending (readyWith [1#8, 2#8, 3#8] [.newer]) 0x55#8) = 0x4#32 := by decide

/-- Vectors BU9, BU10. -/
theorem test_burst3_faults : statusAfter 0x9C460502#32 inited = 0x810#32 ∧
    statusAfter 0x9C460502#32 (wired ready) = 0x310#32 := by decide

/-- Vectors DL1, DL2, DL5. -/
theorem test_delay : (after 0xA0000000#32 fresh).trace = [.wait .host 0] ∧
    (after 0xA0FFFFFF#32 ready).trace = [.wait .host 16777215] ∧
    (after 0xA00186A0#32 (faultyState fresh)).trace = [] := by decide

/-! ### The whole machine -/

/-- Vectors X1 and X10: ILLEGAL before NOT_INIT, and the first fault kept. -/
theorem test_illegal_word : statusAfter 0x00000000#32 fresh = 0x110#32 ∧
    statusAfter 0xB0000000#32 (faultyState fresh) = 0x210#32 ∧
    (after 0xB0000000#32 (faultyState fresh)).fcmd = 0x400000A5#32 := by decide

/-- Vector F1: mode (1,1), 0xA5 sent, 0x3C received: each bit driven on a falling edge and sampled on the next rising
edge. -/
theorem test_frame_edges : (frameBits 0xA5#8 0x3C#8 true true).edges.map (·.driven) =
      [some true, none, some false, none, some true, none, some false, none, some false, none, some true, none,
        some false, none, some true, none] ∧
    (frameBits 0xA5#8 0x3C#8 true true).edges.filterMap (fun e => e.sampled.map (·.2)) =
      [false, false, true, true, true, true, false, false] ∧
    (frameBits 0xA5#8 0x3C#8 true true).edges.map (·.level) =
      [false, true, false, true, false, true, false, true, false, true, false, true, false, true, false, true] ∧
    (frameBits 0xA5#8 0x3C#8 true true).rx = 0x3C#8 := by decide

/-- R97, R24: a command line is a write of its word to CMD, and `regread` reads RESULT after it. -/
theorem test_host_notation : pseudoRegread 0x47#8 0x09#8 = [.write 0 4 0x80470900#32, .read 0x0C 4] ∧
    pseudoCfgentry 0x46#8 0x05#8 0x02#8 100000#24 = [.write 0 4 0x9C460502#32, .write 0 4 0xA00186A0#32] := by decide

/-- Program P1, step 1, from reset, through the host window (R212). -/
theorem test_step_runs_the_word :
    configWord (endOf fresh (step (fresh.withFetchWord 32 0x10000002))).config = 0x09#32 ∧
    (endOf fresh (step (fresh.withFetchWord 32 0x10000002))).replies = [.done] := by decide

/-- The tests' ready state is `Ready(1, 1, 16)` (R217), and with DIV = 0 it is not. -/
theorem test_ready : Ready true true 16#32 ready ∧ ¬ Ready true true 16#32 { ready with div := 0#32 } ∧
    configWord ready.config = 0x7B#32 := by decide

/-- R130: with HWCS = 1 the line falls as the frame is loaded. -/
theorem test_select_falls_in_frame : csN (wired ready) = .high ∧
    csN ({ wired ready with fsm := .txLoad 1#8 .command } : State).seqStep = .low ∧
    ({ wired ready with fsm := .txLoad 1#8 .command } : State).seqStep.trace = [.csFall] := by decide

/-- R24, R61: the host reads CONFIG at its offset. -/
theorem test_step_reads_config :
    (endOf ready (step (hosted ready [.read 0x14 4]))).replies = [.data 0x7B#32] := by decide

/-! ### Witnesses: for each statement with hypotheses, data that meet them together -/

theorem witness_EncodeOfDecodeIsTheWord : decode 0xA0FFFFFF#32 = .command (.delay 0xFFFFFF#24) := by decide

theorem witness_DecodeTakesTheUniqueRow :
    (∃ r ∈ opcodeTable, 0x9CFFFFFF#32 &&& r.mask = r.pattern) ∧
    (∀ r ∈ opcodeTable, 0x00000000#32 &&& r.mask ≠ r.pattern) := by
  refine ⟨⟨opcodeTable[11], ?_, ?_⟩, ?_⟩
  · simp [opcodeTable]
  · decide
  · simp [opcodeTable]

/-- One word per disjunct of `IllegalFields`, at the boundary of its field. -/
theorem witness_IllegalWordsFaultIllegal : fresh.status.fault = false ∧
    IllegalFields 0x00000000#32 ∧ IllegalFields 0xB0000000#32 ∧ IllegalFields 0x10000004#32 ∧
    IllegalFields 0x28000000#32 ∧ IllegalFields 0x40000100#32 ∧ IllegalFields 0x82000000#32 ∧
    IllegalFields 0x80000001#32 ∧ IllegalFields 0x95000000#32 ∧ IllegalFields 0x90000000#32 ∧
    IllegalFields 0x94000001#32 ∧ IllegalFields 0x98000001#32 ∧ IllegalFields 0xA1000000#32 := by
  refine ⟨?_, ?_, ?_, ?_, ?_, ?_, ?_, ?_, ?_, ?_, ?_, ?_, ?_⟩ <;> decide

theorem witness_InitConfiguresOrFaultsOpen :
    (ready.status.fault = false ∧ ready.status.csa = false ∧ ready.fsm = .idle) ∧
    ((opened ready).status.fault = false ∧ (opened ready).status.csa = true) := by decide

theorem witness_InitIsIdempotent : fresh.status.fault = false ∧ fresh.status.csa = false := by decide

/-- One state per clause; the divisors 0, 1, DIV_MAX and DIV_MAX + 1. -/
theorem witness_SetbaudInstallsTheRoundedDivisor :
    (fresh.status.fault = false ∧ fresh.config.cfg = false) ∧
    ((opened inited).status.fault = false ∧ (opened inited).config.cfg = true ∧ (opened inited).status.csa = true) ∧
    (inited.status.fault = false ∧ inited.config.cfg = true ∧ inited.status.csa = false ∧ inited.arg1 = 0#32) ∧
    ((operands inited 1#32 3#32).arg1 ≠ 0#32 ∧ computedDivisor (operands inited 1#32 3#32) = 0) ∧
    ((operands inited 65536#32 1#32).arg1 ≠ 0#32 ∧
      (operands inited 65536#32 1#32).params.divMax < computedDivisor (operands inited 65536#32 1#32)) ∧
    computedDivisor (operands inited 1#32 2#32) = 1 ∧
    computedDivisor (operands inited 65535#32 1#32) = (operands inited 65535#32 1#32).params.divMax := by decide

theorem witness_DivisorRoundsHalfUp : 2#32 ≠ 0#32 ∧ 2 * (5#32).toNat = (2 * 2 + 1) * (2#32).toNat := by decide

/-- The least and the greatest legal divisor; and a SETBAUD that does not fault. -/
theorem witness_LegalDivisorsAreOneToMax :
    (inited.status.fault = false ∧ inited.config.cfg = true ∧ inited.status.csa = false) ∧
    (operands inited 1#32 1#32).arg0.toNat = 1 ∧
    (operands inited 65535#32 1#32).arg0.toNat = (operands inited 65535#32 1#32).params.divMax ∧
    (∃ t, exec .setbaud (operands inited 65535#32 1#32) = .next t ∧ t.status.fault = false) :=
  ⟨by decide, by decide, by decide, _, rfl, by decide⟩

theorem witness_SetmodeInstallsTheMode :
    (fresh.status.fault = false ∧ fresh.config.cfg = false) ∧
    ((opened ready).status.fault = false ∧ (opened ready).config.cfg = true ∧ (opened ready).status.csa = true) ∧
    (ready.status.fault = false ∧ ready.config.cfg = true ∧ ready.status.csa = false ∧ ready.fsm = .idle) := by decide

theorem witness_PullUpFollowsPolarity :
    inited.status.fault = false ∧ inited.config.cfg = true ∧ inited.status.csa = false := by decide

/-- A SETBAUD that changes DIV, and an INIT that changes HWCS. -/
theorem witness_ConfigurationHasItsOwnWriters :
    (∃ t, exec .setbaud (operands inited 5#32 2#32) = .next t ∧ t.div ≠ (operands inited 5#32 2#32).div) ∧
    (∃ t, exec (.init true true) inited = .next t ∧ t.config.hwcs ≠ inited.config.hwcs) :=
  ⟨⟨_, rfl, by decide⟩, ⟨_, rfl, by decide⟩⟩

theorem witness_WrbyteShiftsOneFrame :
    (fresh.status.fault = false ∧ fresh.config.cfg = false) ∧
    (inited.status.fault = false ∧ inited.config.cfg = true ∧ inited.config.en = false) ∧
    ((after 0x30000003#32 inited).config.en = true ∧ (after 0x30000003#32 inited).div = 0#32) ∧
    (FrameReady ready ∧ ready.status.rxfull = false) ∧
    (FrameReady (pending ready 1#8) ∧ (pending ready 1#8).status.rxfull = true) := by decide

theorem witness_OverflowKeepsEitherByte : FrameReady (pending ready 1#8) ∧
    (pending ready 1#8).status.rxfull = true ∧ (pending ready 1#8).config.rxen = true ∧
    (pending ready 1#8).params.slaveGiven = false := by decide

theorem witness_ReceivedByteIsTheSlaves :
    (FrameReady (modelled ready) ∧ (modelled ready).status.rxfull = false ∧ (modelled ready).config.rxen = true ∧
      (modelled ready).params.slaveGiven = true) ∧
    (FrameReady ready ∧ ready.status.rxfull = false ∧ ready.config.rxen = true ∧ ready.params.slaveGiven = false) ∧
    (FrameReady { ready with config := { ready.config with rxen := false } } ∧
      ({ ready with config := { ready.config with rxen := false } } : State).config.rxen = false) := by decide

theorem witness_RdbyteDeliversTheByte :
    (fresh.status.fault = false ∧ fresh.config.cfg = false) ∧
    (inited.status.fault = false ∧ inited.config.cfg = true ∧ inited.status.rxfull = false) ∧
    ((pending inited 7#8).status.fault = false ∧ (pending inited 7#8).config.cfg = true ∧
      (pending inited 7#8).status.rxfull = true) := by decide

theorem witness_ResultHasTwoWriters :
    ∃ t, exec .rdbyte (pending ready 0x3C#8) = .next t ∧ t.result ≠ (pending ready 0x3C#8).result :=
  ⟨_, rfl, by decide⟩

/-- A WRBYTE, a TRANSACT.R and a BURST. -/
theorem witness_SequencerRefinesTheCommands : ready.fsm = .idle ∧ ready.status.fault = false ∧
    entryState (.wrbyte 1#8) ≠ .idle ∧ entryState (.transactR 1#8 2#8) ≠ .idle ∧ entryState (.burst1 1#8) ≠ .idle ∧
    (∃ t, exec (.wrbyte 1#8) ready = .next t ∧ t.status.fault = false) ∧
    (∃ t, exec (.transactR 1#8 2#8) ready = .next t ∧ t.status.fault = false) :=
  ⟨by decide, by decide, by decide, by decide, by decide, ⟨_, rfl, by decide⟩, ⟨_, rfl, by decide⟩⟩

/-- The states in which the select commands pass and fail each of their checks. -/
theorem witness_CsassertOpensATransaction :
    (fresh.status.fault = false ∧ fresh.config.cfg = false) ∧
    ((wired inited).status.fault = false ∧ (wired inited).config.cfg = true ∧ (wired inited).config.hwcs = true) ∧
    ((opened inited).config.cfg = true ∧ (opened inited).config.hwcs = false ∧ (opened inited).status.csa = true) ∧
    (inited.config.cfg = true ∧ inited.config.hwcs = false ∧ inited.status.csa = false) := by decide

theorem witness_CsdeassertClosesTheTransaction :
    (fresh.status.fault = false ∧ fresh.config.cfg = false) ∧
    ((wired inited).status.fault = false ∧ (wired inited).config.cfg = true ∧ (wired inited).config.hwcs = true) ∧
    (inited.config.cfg = true ∧ inited.config.hwcs = false ∧ inited.status.csa = false) ∧
    ((opened inited).config.cfg = true ∧ (opened inited).config.hwcs = false ∧ (opened inited).status.csa = true ∧
      (opened inited).fsm = .idle) := by decide

theorem witness_ChipSelectContractIsEnforced :
    ((opened ready).status.fault = false ∧ (opened ready).config.cfg = true ∧ (opened ready).config.hwcs = false ∧
      (opened ready).status.csa = true ∧ hasOwnBracket (.burst1 0#8) = true) ∧
    (ready.status.fault = false ∧ ready.config.cfg = true ∧ ready.config.hwcs = false ∧ ready.status.csa = false) := by
  decide

/-- A state for each clause of the transfers' statements: each of the five checks failing first, and none. -/
theorem transfer_clauses :
    (fresh.status.fault = false ∧ fresh.config.cfg = false) ∧
    ((wired ready).status.fault = false ∧ (wired ready).config.cfg = true ∧ (wired ready).config.hwcs = true) ∧
    ((opened ready).status.fault = false ∧ (opened ready).config.cfg = true ∧ (opened ready).config.hwcs = false ∧
      (opened ready).status.csa = true) ∧
    (inited.status.fault = false ∧ inited.config.cfg = true ∧ inited.config.hwcs = false ∧ inited.status.csa = false ∧
      inited.config.en = false) ∧
    ({ ready with div := 0#32 } : State).div = 0#32 ∧ TransferReady ready ∧ ready.fsm = .idle := by decide

theorem witness_BurstSendsItsBytesUnderOneSelect :
    (Instr.burst1 0xAB#8 = .burst1 0xAB#8 ∧ 0x94AB0000#32 = 0x94#8 ++ 0xAB#8 ++ 0#16 ∧ [0xAB#8] = [0xAB#8]) ∧
    (0x98123400#32 = 0x98#8 ++ 0x12#8 ++ 0x34#8 ++ 0#8) ∧
    (0x9C460502#32 = 0x9C#8 ++ 0x46#8 ++ 0x05#8 ++ 0x02#8) ∧ TransferReady ready ∧ inited.config.en = false := by decide

theorem witness_DelayOnlyEmitsItsWait : fresh.status.fault = false := by decide

theorem witness_TransfersAreWholeSelectBrackets : hasOwnBracket (.transactR 0#8 0#8) = true ∧
    ready.status.fault = false ∧ ∃ t, exec (.transactR 0#8 0#8) ready = .next t ∧ t.status.fault = false :=
  ⟨by decide, by decide, _, rfl, by decide⟩

theorem witness_TransactWriteSendsThreeBytes : ready.status.fault = false ∧ TransferReady ready ∧ ready.fsm = .idle := by
  decide

theorem witness_TransactReadDeliversTheThirdByte : ready.status.fault = false ∧ TransferReady ready ∧ 0xFF#8 ≠ 0#8 := by
  decide

/-- Decided bytes with no slave model; and with a slave model the three answers of its function. -/
theorem witness_ReadAgainstAKnownSlave :
    (TransferReady ready ∧ ready.config.rxen = true ∧ ready.params.slaveGiven = false ∧
      ready.env.slave = 0xFF#8 :: 0xFF#8 :: 0x1A#8 :: []) ∧
    TransferReady (modelled ready) ∧ (modelled ready).config.rxen = true ∧ (modelled ready).params.slaveGiven = true ∧
    ∃ (start : List WireEvent) (m0 m1 m2 : Byte), m0 = Config.slaveByte start 0x47#8 ∧
      m1 = Config.slaveByte (start ++ framesOf (modelled ready) [0x47#8] [m0]) 0x09#8 ∧
      m2 = Config.slaveByte (start ++ framesOf (modelled ready) [0x47#8, 0x09#8] [m0, m1]) 0#8 :=
  ⟨by decide, by decide, by decide, by decide, [.wait .settle 20, .csFall, .wait .css 4], _, _, _, rfl, rfl, rfl⟩

/-- A TRANSACT.R from two states that differ in what the environment answers and in what RXBUF and TXSR held. -/
theorem witness_DiscardedBytesAreNeverSurfaced :
    TransferReady ready ∧
    ({ readyWith [1#8, 2#8, 3#8] [] with rxbuf := 9#8, txsr := 8#8 } : State) =
      { ready with env := (readyWith [1#8, 2#8, 3#8] []).env, rxbuf := 9#8, txsr := 8#8 } ∧
    (∃ t, exec (.transactR 1#8 2#8) ready = .next t) ∧
    (∃ t, exec (.transactR 1#8 2#8) { readyWith [1#8, 2#8, 3#8] [] with rxbuf := 9#8, txsr := 8#8 } = .next t) :=
  ⟨by decide, rfl, ⟨_, rfl⟩, ⟨_, rfl⟩⟩

theorem witness_EnvironmentReachesOnlyResult :
    (∃ t, exec (.wrbyte 1#8) ready = .next t) ∧
    (∃ t, exec (.wrbyte 1#8) { ready with env := (readyWith [1#8] [.older]).env } = .next t) ∧
    (∀ opc reg, Instr.wrbyte 1#8 ≠ .transactR opc reg) :=
  ⟨⟨_, rfl⟩, ⟨_, rfl⟩, by simp⟩

theorem witness_OnlyTransactSettles :
    (ready.status.fault = false ∧ ∃ t, exec (.transactW 1#8 2#8 3#8) ready = .next t ∧ t.status.fault = false) ∧
    (∃ t, exec (.burst1 1#8) ready = .next t ∧ t.status.fault = false) :=
  ⟨⟨by decide, _, rfl, by decide⟩, _, rfl, by decide⟩

/-- A faulted block, an illegal word, a command that reports a fault, and one that reports none. -/
theorem witness_FaultTableIsExact :
    (faultyState fresh).status.fault = true ∧
    (fresh.status.fault = false ∧ decode 0x00000000#32 = .illegal .unassignedOp) ∧
    (decode 0x400000A5#32 = .command (.wrbyte 0xA5#8) ∧ reportedCode (.wrbyte 0xA5#8) fresh = some 2#4 ∧
      reportedCode (.wrbyte 0xA5#8) inited = some 8#4) ∧
    reportedCode (.wrbyte 0xA5#8) ready = none ∧ ready.status.fault = false := by decide

/-- A step that has this command word next: from a faulted block, with an illegal word, and with a command. -/
theorem witness_CommandWriteExecutes :
    (NextCommand (hosted (faultyState fresh) [.write 0 4 0x10000002#32]) 0x10000002#32 [] ∧
      (hosted (faultyState fresh) [.write 0 4 0x10000002#32]).status.fault = true) ∧
    (NextCommand (hosted fresh [.write 0 4 0#32]) 0#32 [] ∧ decode 0#32 = .illegal .unassignedOp ∧
      (hosted fresh [.write 0 4 0#32]).status.fault = false) ∧
    NextCommand (hosted fresh [.write 0 4 0x10000002#32]) 0x10000002#32 [] ∧
    decode 0x10000002#32 = .command (.init false true) := by decide

theorem witness_StepRunsTheDecodedCommand :
    NextCommand (hosted ready [.write 0 4 0x400000A5#32]) 0x400000A5#32 [] ∧
    decode 0x400000A5#32 = .command (.wrbyte 0xA5#8) := by decide

theorem witness_FaultedBlockIgnoresCommands : AtBoundary (faultyState fresh) ∧ (faultyState fresh).status.fault = true ∧
    (hosted (faultyState fresh) [.write 4 4 7#32]).host = .write 4 4 7#32 :: [] ∧
    (hosted (faultyState fresh) [.read (offsetOf .fcmd) 4]).host = .read (offsetOf .fcmd) 4 :: [] ∧
    (∃ t, step (hosted (faultyState fresh) [.write 0 4 0x10000002#32]) = .next t) :=
  ⟨by decide, by decide, rfl, rfl, _, rfl⟩

theorem witness_OnlyResetLeavesAFault :
    (hosted (faultyState fresh) [.gateClose]).fsm = .idle ∧
    (hosted (faultyState fresh) [.gateClose]).status.fault = true ∧
    (hosted (faultyState fresh) [.gateClose]).host.head? ≠ some .rstLow ∧
    (∃ t, step (hosted (faultyState fresh) [.gateClose]) = .next t) ∧
    (hosted (faultyState fresh) [.rstLow]).host.head? = some .rstLow ∧
    (∃ t, step (hosted (faultyState fresh) [.rstLow]) = .next t) :=
  ⟨by decide, by decide, by decide, ⟨_, rfl⟩, by decide, ⟨_, rfl⟩⟩

theorem witness_CommandsKeepOperandsAndHost : ∃ t, exec (.burst3 1#8 2#8 3#8) ready = .next t := ⟨_, rfl⟩

/-- A read at each end of the readable offsets, and a write of each operand register. -/
theorem witness_WindowReadsAndArgWrites : AtBoundary ready ∧
    (hosted ready [.read 0x04 4]).host = .read 0x04 4 :: [] ∧ (hosted ready [.read 0x1C 4]).host = .read 0x1C 4 :: [] ∧
    (hosted ready [.write 0x04 4 1#32]).host = .write 0x04 4 1#32 :: [] ∧
    (hosted ready [.write 0x08 4 1#32]).host = .write 0x08 4 1#32 :: [] := by decide

/-- Accesses on both sides of each boundary of the window. -/
theorem witness_RefusedAccessesAreExactly : AtBoundary ready ∧
    (hosted ready [.read 0x1C 4]).host = .read 0x1C 4 :: [] ∧ (hosted ready [.read 0x20 4]).host = .read 0x20 4 :: [] ∧
    (hosted ready [.read (-4) 4]).host = .read (-4) 4 :: [] ∧
    (hosted ready [.write 0x08 4 1#32]).host = .write 0x08 4 1#32 :: [] ∧
    (hosted ready [.write 0x0C 2 1#32]).host = .write 0x0C 2 1#32 :: [] := by decide

theorem witness_GatedAccessesAreRefused :
    (({ hosted ready [.read 0x10 4] with blkClk := .settling } : State).fsm = .idle ∧
      ({ hosted ready [.read 0x10 4] with blkClk := .settling } : State).rstN = true ∧
      ({ hosted ready [.read 0x10 4] with blkClk := .settling } : State).blkClk ≠ .settled) ∧
    ({ hosted ready [.write 0 4 0#32] with rstN := false } : State).rstN = false := by decide

/-- A step with the gate closed, with its settling, and each move of the gate. -/
theorem witness_ClockGateKeepsTheRegisters :
    (({ hosted ready [.gateOpen] with blkClk := .closed } : State).fsm = .idle ∧
      ({ hosted ready [.gateOpen] with blkClk := .closed } : State).blkClk ≠ .settled ∧
      ({ hosted ready [.gateOpen] with blkClk := .closed } : State).host.head? ≠ some .rstLow ∧
      ({ hosted ready [.gateOpen] with blkClk := .closed } : State).host = .gateOpen :: []) ∧
    (∃ t, step { hosted ready [.gateOpen] with blkClk := .closed } = .next t) ∧
    (∃ t, step { hosted ready [.gateSettled] with blkClk := .settling } = .next t) ∧
    (hosted ready [.gateClose]).host = .gateClose :: [] ∧ (hosted ready [.gateSettled]).host = .gateSettled :: [] :=
  ⟨by decide, ⟨_, rfl⟩, ⟨_, rfl⟩, by decide, by decide⟩

/-- R196, R214: the gate closed, opened and settled again, CONFIG kept. -/
theorem test_gate_moves : (endOf ready (step (hosted ready [.gateClose]))).blkClk = .closed ∧
    (endOf ready (step { hosted ready [.gateOpen] with blkClk := .closed })).blkClk = .settling ∧
    (endOf ready (step { hosted ready [.gateSettled] with blkClk := .settling })).blkClk = .settled ∧
    configWord (endOf ready (step (hosted ready [.gateClose]))).config = 0x7B#32 := by decide

/-- A frame in progress, with a host access and with each pin change next. -/
theorem witness_HostIsStalledInsideACommand :
    ({ hosted ready [.read 0x10 4] with fsm := .txLoad 1#8 .command } : State).fsm ≠ .idle ∧
    (hosted ready [.read 0x10 4]).host = .read 0x10 4 :: [] := by decide

theorem witness_PinChangeInsideACommandIsStuck :
    ({ hosted ready [.rstLow] with fsm := .buSelOff } : State).fsm ≠ .idle ∧
    (hosted ready [.rstLow]).host = .rstLow :: [] ∧ (hosted ready [.rstHigh]).host = .rstHigh :: [] ∧
    (hosted ready [.gateClose]).host = .gateClose :: [] ∧ (hosted ready [.gateOpen]).host = .gateOpen :: [] := by decide

theorem witness_ResetRestoresEveryElement :
    ((hosted (faultyState ready) [.rstLow]).fsm = .idle ∧
      (hosted (faultyState ready) [.rstLow]).host = .rstLow :: []) ∧
    (hosted ready [.rstHigh]).host = .rstHigh :: [] := by decide

/-- One state per clause. -/
theorem witness_LineLevelsAtABoundary : fresh.fsm = .idle ∧ fresh.config.cfg = false ∧
    ((opened ready).config.cfg = true ∧ (opened ready).config.hwcs = false ∧ (opened ready).status.csa = true) ∧
    ready.status.csa = false ∧ (wired ready).config.hwcs = true ∧
    (ready.config.en = true ∧ ready.config.cpol = true) ∧
    (configAfter 0x30000001#32 inited = 0x1B#32) ∧
    ((after 0x10000002#32 ready).config.en = false ∧ (after 0x10000002#32 ready).config.sckpu = true) ∧
    (inited.config.en = false ∧ inited.config.sckpu = false) := by decide

/-- A step from a state that meets the invariants: a frame of an open transaction. -/
theorem witness_BoundaryInvIsKept : BoundaryInv (hosted (opened ready) [.write 0 4 0x40000041#32]) ∧
    ∃ t, step (hosted (opened ready) [.write 0 4 0x40000041#32]) = .next t := ⟨by decide, _, rfl⟩

theorem witness_ModeInvIsKept : (hosted ready [.write 0 4 0x30000000#32]).fsm = .idle ∧
    ModeInv (hosted ready [.write 0 4 0x30000000#32]) ∧
    ∃ t, step (hosted ready [.write 0 4 0x30000000#32]) = .next t := ⟨by decide, by decide, _, rfl⟩

theorem witness_TraceRecordsTheSelectLine :
    BoundaryInv (hosted { opened ready with trace := [.csFall] } [.write 0 4 0x70000000#32]) ∧
    SelectInv (hosted { opened ready with trace := [.csFall] } [.write 0 4 0x70000000#32]) ∧
    (∃ t, step (hosted { opened ready with trace := [.csFall] } [.write 0 4 0x70000000#32]) = .next t) ∧
    (opened ready).config.cfg = true ∧ BoundaryInv (wired ready) ∧ SelectInv (wired ready) :=
  ⟨by decide, by decide, ⟨_, rfl⟩, by decide, by decide, by decide⟩

/-- A BURST and, with the internal select logic, a WRBYTE that start; and a state of each in which the line falls and
rises. -/
theorem witness_SelectChangesAreRecorded : BoundaryInv ready ∧ ready.status.fault = false ∧
    entryState (.burst1 1#8) ≠ .idle ∧ (∃ t, exec (.burst1 1#8) ready = .next t ∧ t.status.fault = false) ∧
    BoundaryInv (wired ready) ∧ (∃ t, exec (.wrbyte 1#8) (wired ready) = .next t ∧ t.status.fault = false) ∧
    SequencerSelectInv { ready with fsm := .buSelOn [1#8] } ∧ SequencerSelectInv { ready with fsm := .raSelOff } ∧
    SequencerSelectInv { wired ready with fsm := .txLoad 1#8 .command } :=
  ⟨by decide, by decide, by decide, ⟨_, rfl, by decide⟩, by decide, ⟨_, rfl, by decide⟩, by decide, by decide, by decide⟩

/-- At a command boundary, and in the middle of a command. -/
theorem witness_TraceOnlyGrows :
    ((hosted ready [.write 0 4 0x400000A5#32]).host.head? ≠ some .rstLow ∧
      ∃ t, step (hosted ready [.write 0 4 0x400000A5#32]) = .next t) ∧
    ∃ t, step { ready with fsm := .raPost } = .next t := ⟨⟨by decide, _, rfl⟩, _, rfl⟩

/-- A command of each clause. -/
theorem witness_NominalDurations : ready.status.fault = false ∧
    (∃ t, exec (.transactR 1#8 2#8) ready = .next t ∧ t.status.fault = false) ∧
    (∃ t, exec (.burst1 1#8) ready = .next t ∧ t.status.fault = false) ∧
    (∃ t, exec (.burst2 1#8 2#8) ready = .next t ∧ t.status.fault = false) ∧
    (∃ t, exec (.burst3 1#8 2#8 3#8) ready = .next t ∧ t.status.fault = false) ∧
    (∃ t, exec (.wrbyte 1#8) ready = .next t ∧ t.status.fault = false) ∧
    (∃ t, exec (.delay 1#24) ready = .next t ∧ t.status.fault = false) :=
  ⟨by decide, ⟨_, rfl, by decide⟩, ⟨_, rfl, by decide⟩, ⟨_, rfl, by decide⟩, ⟨_, rfl, by decide⟩, ⟨_, rfl, by decide⟩,
    ⟨_, rfl, by decide⟩⟩

end Sys2Proof.Tests
end

section
/-! Proofs of spec/00_scope.md's family: where the byte a frame captures comes from (R15, R129), for one frame of WRBYTE
and for the three frames of TRANSACT.R. -/

namespace Sys2Proof.Machine

/-! ### Commands that pass their checks -/

/-- WRBYTE passes its checks when the block is ready for a frame (R125). -/
theorem wrbyteChecks_pass {s : State} (data : Byte) (h : FrameReady s) :
    firstFault (checksOf (.wrbyte data)) s = none := by
  obtain ⟨-, hcfg, hen, hdiv⟩ := h
  simp [firstFault, checksOf, faultHolds, hcfg, hen, hdiv]

/-- A WRBYTE that runs is one frame (R125). -/
theorem exec_wrbyte_ready {s : State} (data : Byte) (h : FrameReady s) :
    exec (.wrbyte data) s = .next (s.shiftByte data) :=
  exec_effect h.1 (wrbyteChecks_pass data h)

/-- A TRANSACT.R that runs is its three frames, the third delivered, inside its bracket (R160, R162). -/
theorem exec_transactR_ready {s : State} (opc reg : Byte) (h : TransferReady s) :
    exec (.transactR opc reg) s = .next ((s.transactHead opc reg).shiftByte 0#8).deliver.transactTail :=
  exec_effect h.1 (transferChecks_pass h)

/-! ### One frame -/

/-- With RXFULL = 0 there is no overflow: RXBUF is the byte on MISO (R127). -/
theorem State.shiftByte_rxbuf_of_empty {s : State} (tx : Byte) (h : s.status.rxfull = false) :
    (s.shiftByte tx).rxbuf = s.misoByte tx := by
  simp [h]

/-- A frame uses up one decided byte, overflow or not (log 6). -/
theorem State.shiftByte_slave (s : State) (tx : Byte) : (s.shiftByte tx).env.slave = s.env.slave.tail := by
  rw [State.shiftByte_env]
  split <;> rfl

/-- With RXEN = 0 the byte captured is that of every state with the same RXEN and as many draws made (R129). -/
theorem State.misoByte_unwired_congr {s t : State} (tx : Byte) (hs : s.config.rxen = false) (ht : t.config.rxen = false)
    (hdraws : t.env.draws = s.env.draws) : t.misoByte tx = s.misoByte tx := by
  rw [State.misoByte_unwired tx hs, State.misoByte_unwired tx ht, hdraws]

/-- The outcome of a WRBYTE that finds RXBUF empty, by the byte on MISO (R125, R127). -/
theorem exec_wrbyte_of_empty {s : State} (data : Byte) (hready : FrameReady s) (hempty : s.status.rxfull = false) :
    ∃ t, exec (.wrbyte data) s = .next t ∧ t.rxbuf = s.misoByte data ∧
      t.trace = s.trace ++ frameEvents s data (s.misoByte data) ∧ t.env.slave = s.env.slave.tail :=
  ⟨_, exec_wrbyte_ready data hready, State.shiftByte_rxbuf_of_empty data hempty, s.shiftByte_trace data,
    s.shiftByte_slave data⟩

/-- Settles O17: with RXFULL = 0 RXBUF is the byte on MISO, which RXEN and the kind of slave decide. -/
theorem receivedByteIsTheSlaves : Obligations.ReceivedByteIsTheSlaves := by
  intro data m rest s hready hempty
  obtain ⟨u, hu, ubuf, utrace, uslave⟩ :=
    exec_wrbyte_of_empty (s := { s with env := { s.env with slave := m :: rest } }) data hready hempty
  refine ⟨fun hrx hgiven => ?_, fun hrx hfree => ?_, fun hrx => ?_⟩
  · exact ⟨u, hu, ubuf.trans (State.misoByte_slaveGiven data hrx hgiven)⟩
  · exact ⟨u, hu, ubuf.trans (State.misoByte_decided data hrx hfree rfl), uslave⟩
  · obtain ⟨t, ht, tbuf, ttrace, -⟩ := exec_wrbyte_of_empty data hready hempty
    have same := State.misoByte_unwired_congr (s := s)
      (t := { s with env := { s.env with slave := m :: rest } }) data hrx hrx rfl
    refine ⟨t, u, ht, hu, by rw [tbuf, ubuf, same], ?_⟩
    rw [ttrace, utrace, same]
    rfl

/-! ### A list of drained frames -/

/-- The answers the frames of `bytes` capture, one after the other (R129, R145, R160). -/
def State.answers (s : State) : List Byte → List Byte
  | [] => []
  | b :: rest => s.misoByte b :: (s.shiftByte b).drain.answers rest

/-- The answers of a given `SlaveByte` function to `bytes` after the trace `start`: each frame it has answered stands in the
trace it sees next (R15). -/
def slaveModelAnswers (s : State) (start : List WireEvent) : List Byte → List Byte
  | [] => []
  | b :: rest =>
    Config.slaveByte start b :: slaveModelAnswers s (start ++ framesOf s [b] [Config.slaveByte start b]) rest

/-- Drained frames change neither the mode nor the divisor, so their events are those of the state they started in. -/
theorem framesOf_shiftByte_drain (s : State) (b : Byte) (tx rx : List Byte) :
    framesOf (s.shiftByte b).drain tx rx = framesOf s tx rx := by
  simp [framesOf]

theorem slaveModelAnswers_shiftByte_drain (s : State) (b : Byte) (start : List WireEvent) (bytes : List Byte) :
    slaveModelAnswers (s.shiftByte b).drain start bytes = slaveModelAnswers s start bytes := by
  induction bytes generalizing start with
  | nil => rfl
  | cons c rest ih => rw [slaveModelAnswers, slaveModelAnswers, framesOf_shiftByte_drain, ih]

/-- With HWCS = 0 a frame emits its `Frame` event alone (R130). -/
theorem State.shiftByte_trace_of_hwcs_false {s : State} (b : Byte) (h : s.config.hwcs = false) :
    (s.shiftByte b).trace = s.trace ++ framesOf s [b] [s.misoByte b] := by
  simp [frameEvents, framesOf, h]

/-- With HWCS = 0 drained frames add their `Frame` events, with their answers, to the trace (R145). -/
theorem State.shiftAll_trace {s : State} (bytes : List Byte) (h : s.config.hwcs = false) :
    (s.shiftAll bytes).trace = s.trace ++ framesOf s bytes (s.answers bytes) := by
  induction bytes generalizing s with
  | nil => simp [State.shiftAll, framesOf]
  | cons b rest ih =>
    rw [State.shiftAll, ih (by simp [h]), framesOf_shiftByte_drain, State.drain_trace,
      State.shiftByte_trace_of_hwcs_false b h]
    simp [framesOf, State.answers]

/-- Drained frames keep the parameters (R11). -/
@[simp] theorem State.shiftAll_params (s : State) (bytes : List Byte) : (s.shiftAll bytes).params = s.params := by
  induction bytes generalizing s with
  | nil => rfl
  | cons b rest ih => rw [State.shiftAll, ih, State.drain_params, State.shiftByte_params]

/-- Drained frames use up one decided byte each (log 6). -/
theorem State.shiftAll_slave (s : State) (bytes : List Byte) :
    (s.shiftAll bytes).env.slave = s.env.slave.drop bytes.length := by
  induction bytes generalizing s with
  | nil => rfl
  | cons b rest ih =>
    rw [State.shiftAll, ih, State.drain_env, State.shiftByte_slave, List.drop_tail, List.length_cons]

/-- With no slave model given the answers are the decided bytes (R15). -/
theorem State.answers_decided {s : State} {bytes ms rest : List Byte} (hrx : s.config.rxen = true)
    (hfree : s.params.slaveGiven = false) (hlen : ms.length = bytes.length) (henv : s.env.slave = ms ++ rest) :
    s.answers bytes = ms := by
  induction bytes generalizing s ms with
  | nil => exact (List.eq_nil_of_length_eq_zero hlen).symm
  | cons b bytes ih =>
    obtain - | ⟨m, ms⟩ := ms
    · cases hlen
    · have left : (s.shiftByte b).drain.env.slave = ms ++ rest := by
        rw [State.drain_env, State.shiftByte_slave, henv]
        rfl
      rw [State.answers, State.misoByte_decided b hrx hfree henv,
        ih (by simp [hrx]) (by simp [hfree]) (by simpa using hlen) left]

/-- With a slave model given the answers are its values, frame by frame (R15). -/
theorem State.answers_slaveGiven {s : State} (bytes : List Byte) (hrx : s.config.rxen = true)
    (hgiven : s.params.slaveGiven = true) (hsel : s.config.hwcs = false) :
    s.answers bytes = slaveModelAnswers s s.trace bytes := by
  induction bytes generalizing s with
  | nil => rfl
  | cons b rest ih =>
    rw [State.answers, ih (by simp [hrx]) (by simp [hgiven]) (by simp [hsel]), slaveModelAnswers_shiftByte_drain,
      State.drain_trace, State.shiftByte_trace_of_hwcs_false b hsel, State.misoByte_slaveGiven b hrx hgiven,
      slaveModelAnswers]

/-! ### The three frames of a TRANSACT.R -/

/-- The trace when the first frame of a TRANSACT starts (R160 steps 1 and 2). -/
theorem State.settle_selOn_trace (s : State) : s.settle.selOn.trace =
    s.trace ++ [.wait .settle s.params.tSettleUs, .csFall, .wait .css s.params.tCssCyc] := by
  simp

/-- The byte a host reads from RESULT (R13, R27). -/
theorem zext32_eq_append (b : Byte) : zext32 b = 0#24 ++ b := by
  rw [zext32, BitVec.zeroExtend, BitVec.setWidth_eq_append (by omega)]
  rfl

/-- The outcome of a TRANSACT.R by the three answers its frames capture (R160, R162). -/
theorem exec_transactR_of_answers {s : State} {opc reg m0 m1 m2 : Byte} (hready : TransferReady s)
    (hans : s.settle.selOn.answers [opc, reg, 0#8] = [m0, m1, m2]) :
    ∃ t, exec (.transactR opc reg) s = .next t ∧ t.readReg .result = some (0#24 ++ m2) ∧
      t.env.slave = s.env.slave.drop 3 ∧
      t.trace = s.settle.selOn.trace ++ framesOf s [opc, reg, 0#8] [m0, m1, m2] ++
        [.csRise, .wait .settle s.params.tSettleUs] := by
  have ⟨_, _, hsel, _⟩ := hready
  have third : (s.transactHead opc reg).misoByte 0#8 = m2 := by
    simp only [State.answers, List.cons.injEq] at hans
    obtain ⟨-, -, h2, -⟩ := hans
    exact h2
  have frames : ((s.transactHead opc reg).shiftByte 0#8).trace =
      s.settle.selOn.trace ++ framesOf s [opc, reg, 0#8] [m0, m1, m2] :=
    hans ▸ State.shiftAll_trace (s := s.settle.selOn) [opc, reg, 0#8] hsel
  refine ⟨_, exec_transactR_ready opc reg hready, ?_, ?_, ?_⟩
  · rw [State.readReg, State.transactTail_result, State.deliver_result, State.shiftByte_rxbuf_of_empty 0#8 rfl, third,
      zext32_eq_append]
  · exact State.shiftAll_slave s.settle.selOn [opc, reg, 0#8]
  · rw [State.transactTail_trace, State.deliver_trace, frames]
    simp [State.transactHead]

/-- Settles O32: both kinds of slave fix the three answers, and the answers fix the outcome. -/
theorem readAgainstAKnownSlave : Obligations.ReadAgainstAKnownSlave := by
  intro opc reg m0 m1 m2 s hready hrx start hslave
  have ⟨_, _, hsel, _⟩ := hready
  have opened : s.settle.selOn.trace = start := s.settle_selOn_trace
  have hans : s.settle.selOn.answers [opc, reg, 0#8] = [m0, m1, m2] := by
    obtain ⟨hfree, rest, henv⟩ | ⟨hgiven, h0, h1, h2⟩ := hslave
    · exact State.answers_decided hrx hfree rfl henv
    · subst h0 h1 h2
      rw [State.answers_slaveGiven (s := s.settle.selOn) _ hrx hgiven hsel, opened]
      simp [slaveModelAnswers, framesOf]
  rw [← opened]
  exact exec_transactR_of_answers hready hans

end Sys2Proof.Machine
end

section
/-! Facts for spec/10_state.md's family: what the checks and the effect of a command say of the state, and the shape of
every step at a command boundary. -/

namespace Sys2Proof.Machine

/-! ### Checks -/

/-- A command runs exactly when none of its checks fails (R183). -/
theorem firstFault_eq_none {checks : List FaultCode} {s : State} :
    firstFault checks s = none ↔ ∀ c ∈ checks, faultHolds s c = false := by
  simp [firstFault]

/-- No check looks at the environment (R182). -/
theorem firstFault_env (checks : List FaultCode) (s : State) (e : Env) :
    firstFault checks { s with env := e } = firstFault checks s := by
  refine congrArg checks.find? (funext fun c => ?_)
  cases c <;> rfl

/-- A command that ran without a fault had its effect (R181, R184). -/
theorem exec_passed {i : Instr} {s t : State} (hf : s.status.fault = false) (h : exec i s = .next t)
    (ht : t.status.fault = false) : firstFault (checksOf i) s = none ∧ t = effectOf i s := by
  obtain ⟨hfault, -⟩ | ⟨-, code, -, rfl⟩ | ⟨-, hpass, rfl⟩ := exec_cases h
  · simp [hf] at hfault
  · simp at ht
  · exact ⟨hpass, rfl⟩

/-- A command whose checks include NOT_INIT runs in an initialized block (R182). -/
theorem cfg_of_notInit_pass {checks : List FaultCode} {s : State} (hmem : .notInit ∈ checks)
    (h : firstFault checks s = none) : s.config.cfg = true := by
  simpa [faultHolds] using firstFault_eq_none.1 h _ hmem

/-- A command that sends a byte runs in an initialized block (R125, R145, R160). -/
theorem cfg_of_pass {i : Instr} {s : State} (hi : bytesSent i ≠ []) (h : firstFault (checksOf i) s = none) :
    s.config.cfg = true := by
  refine cfg_of_notInit_pass ?_ h
  cases i <;> simp_all [bytesSent, checksOf, transferChecks]

/-! ### Effects -/

/-- Commands by what they change: the ones that send bytes share one argument. -/
theorem Instr.casesBySending {motive : Instr → Prop} (sends : ∀ i, bytesSent i ≠ [] → motive i)
    (init : ∀ hwcs rxen, motive (.init hwcs rxen)) (setbaud : motive .setbaud)
    (setmode : ∀ cpol cpha, motive (.setmode cpol cpha)) (rdbyte : motive .rdbyte) (csassert : motive .csassert)
    (csdeassert : motive .csdeassert) (delay : ∀ us, motive (.delay us)) (i : Instr) : motive i := by
  cases i with
  | init hwcs rxen => exact init hwcs rxen
  | setbaud => exact setbaud
  | setmode cpol cpha => exact setmode cpol cpha
  | rdbyte => exact rdbyte
  | csassert => exact csassert
  | csdeassert => exact csdeassert
  | delay us => exact delay us
  | _ => exact sends _ (List.cons_ne_nil _ _)

/-- STATUS after one or more frames, by whether the last byte received stays in RXBUF (R127, R147). The frames overflow
exactly when a byte was waiting before them. -/
def Status.afterFrames (st : Status) (keeps : Bool) : Status :=
  { st with rovr := st.rovr || st.rxfull, rxfull := keeps, busy := false }

/-- What drained frames leave (R145, R147). -/
theorem State.shiftAll_cons_frame (s : State) (b : Byte) (rest : List Byte) :
    TransferFrame s (s.shiftAll (b :: rest)) ∧ (s.shiftAll (b :: rest)).status = s.status.afterFrames false := by
  induction rest generalizing s b with
  | nil => simp [TransferFrame, State.shiftAll, Status.afterFrames]
  | cons c rest ih =>
    rw [State.shiftAll]
    simpa [TransferFrame, Status.afterFrames] using ih (s.shiftByte b).drain c

/-- What a BURST leaves (R145). -/
theorem State.burst_cons_frame (s : State) (b : Byte) (rest : List Byte) :
    TransferFrame s (s.burst (b :: rest)) ∧ (s.burst (b :: rest)).status = s.status.afterFrames false := by
  simpa [TransferFrame, State.burst] using s.selOn.shiftAll_cons_frame b rest

/-- TRANSACT.W is three drained frames inside its bracket (R160, R161). -/
theorem effectOf_transactW (opc reg data : Byte) (s : State) :
    effectOf (.transactW opc reg data) s = (s.settle.selOn.shiftAll [opc, reg, data]).transactTail := rfl

/-- A drained byte is still in RXBUF (R147). -/
theorem State.deliver_drain (s : State) : s.drain.deliver = s.deliver := rfl

/-- TRANSACT.R delivers the byte that the third frame leaves in RXBUF (R160, R162). -/
theorem effectOf_transactR (opc reg : Byte) (s : State) :
    effectOf (.transactR opc reg) s = (s.settle.selOn.shiftAll [opc, reg, 0#8]).deliver.transactTail := by
  simp only [effectOf, State.transactHead, State.shiftAll, State.deliver_drain]

/-- What a command that sends bytes leaves (R125, R145, R161, R162): only WRBYTE keeps its byte in RXBUF. -/
theorem effectOf_sends {i : Instr} (hi : bytesSent i ≠ []) (s : State) :
    TransferFrame s (effectOf i s) ∧ (effectOf i s).status = s.status.afterFrames (!hasOwnBracket i) := by
  cases i with
  | wrbyte data => simp [TransferFrame, effectOf, hasOwnBracket, Status.afterFrames]
  | transactW opc reg data =>
    simpa [TransferFrame, effectOf_transactW, hasOwnBracket, Status.afterFrames] using
      s.settle.selOn.shiftAll_cons_frame opc [reg, data]
  | transactR opc reg =>
    obtain ⟨frame, status⟩ := s.settle.selOn.shiftAll_cons_frame opc [reg, 0#8]
    simpa [TransferFrame, effectOf_transactR, hasOwnBracket, Status.afterFrames, status] using frame
  | burst1 b0 => exact s.burst_cons_frame b0 []
  | burst2 b0 b1 => exact s.burst_cons_frame b0 [b1]
  | burst3 b0 b1 b2 => exact s.burst_cons_frame b0 [b1, b2]
  | _ => exact absurd rfl hi

/-- Drained frames keep RESULT (R147). -/
@[simp] theorem State.shiftAll_result (s : State) (bytes : List Byte) : (s.shiftAll bytes).result = s.result := by
  induction bytes generalizing s with
  | nil => rfl
  | cons b rest ih => rw [State.shiftAll, ih, State.drain_result, State.shiftByte_result]

/-- RESULT is written by RDBYTE and TRANSACT.R only (R27). -/
theorem effectOf_result {i : Instr} (hr : i ≠ .rdbyte) (ht : ∀ opc reg, i ≠ .transactR opc reg) (s : State) :
    (effectOf i s).result = s.result := by
  cases i with
  | rdbyte => exact absurd rfl hr
  | transactR opc reg => exact absurd rfl (ht opc reg)
  | wrbyte data => exact s.shiftByte_result data
  | transactW opc reg data =>
    rw [effectOf_transactW, State.transactTail_result, State.shiftAll_result]
    rfl
  | burst1 b0 => exact s.selOn.shiftAll_result [b0]
  | burst2 b0 b1 => exact s.selOn.shiftAll_result [b0, b1]
  | burst3 b0 b1 b2 => exact s.selOn.shiftAll_result [b0, b1, b2]
  | _ => rfl

/-! ### Every step at a command boundary -/

/-- An invariant of one step at a command boundary: what only the host's side changes keeps it, and so do a reset, a
fault raised and the effect of a command that passes its checks (R180, R181, R210). -/
theorem step_boundary_keeps {P : State → Prop} {s t : State} (hi : s.fsm = .idle) (h : step s = .next t) (hP : P s)
    (host : ∀ u arg0 arg1 rstN blkClk host replies, P u →
      P { u with arg0 := arg0, arg1 := arg1, rstN := rstN, blkClk := blkClk, host := host, replies := replies })
    (reset : s.host.head? = some .rstLow → ∀ u, P (State.applyReset u false))
    (fault : ∀ u code w, u.status.fault = false → P u → P (State.raiseFault u code w))
    (effect : ∀ i u, u.status.fault = false → firstFault (checksOf i) u = none → P u → P (effectOf i u)) : P t := by
  cases hh : s.host with
  | nil =>
    rw [step_waits hi hh] at h
    cases h
    exact hP
  | cons next rest =>
    rw [step_served hi hh] at h
    have taken : P { s with host := rest } := host s _ _ _ _ rest _ hP
    generalize { s with host := rest } = u at h taken
    obtain ⟨r, rfl⟩ | ⟨v, rfl⟩ | ⟨v, rfl⟩ | ⟨w, u', hw, rfl⟩ | ⟨rfl, rfl⟩ | rfl | ⟨c, rfl⟩ := serve_cases h
    · exact host u _ _ _ _ _ _ taken
    · exact host u _ _ _ _ _ _ taken
    · exact host u _ _ _ _ _ _ taken
    · refine host u' _ _ _ _ _ _ ?_
      obtain rfl | ⟨hf, rfl⟩ | ⟨i, -, hx⟩ := execute_cases hw
      · exact taken
      · exact fault _ _ _ hf taken
      · obtain ⟨-, rfl⟩ | ⟨hf, code, -, rfl⟩ | ⟨hf, hpass, rfl⟩ := exec_cases hx
        · exact taken
        · exact fault _ _ _ hf taken
        · exact effect _ _ hf hpass taken
    · exact reset (by rw [hh]; rfl) _
    · exact host u _ _ _ _ _ _ taken
    · exact host u _ _ _ _ _ _ taken

end Sys2Proof.Machine
end

section
/-! Proofs of spec/10_state.md's family: the boundary invariant of R55 and the configuration invariant of R30, R36,
R37, R41 and R42. -/

namespace Sys2Proof.Machine

/-! ### The boundary invariant (R55) -/

/-- A fault code is not the code of a block without a fault (R182). -/
@[simp] theorem codeOf_ne_zero (code : FaultCode) : codeOf code ≠ 0#4 := by
  cases code <;> decide

/-- DIV_MAX fits DIV (R11, R42). -/
theorem Params.divMax_lt (p : Params) : p.divMax < 2 ^ 32 := by
  have width : p.divWidth ≤ 32 := by
    have := p.divWidthOver8.isLt
    simp only [Params.divWidth]
    omega
  have := Nat.pow_le_pow_right (show 0 < 2 by omega) width
  have := Nat.two_pow_pos p.divWidth
  simp only [Params.divMax]
  omega

theorem boundaryInv_applyReset (s : State) (rstN : Bool) : BoundaryInv (s.applyReset rstN) := by
  simp [BoundaryInv, Status.reset, ConfigReg.reset]

theorem boundaryInv_raiseFault {s : State} (code : FaultCode) (w : Word) (h : BoundaryInv s) :
    BoundaryInv (s.raiseFault code w) := by
  obtain ⟨hcsa, hdiv, -, -, hrovr, hfsm, hbusy⟩ := h
  exact ⟨hcsa, hdiv, by simp, by simp, hrovr, hfsm, hbusy⟩

/-- The divisor a SETBAUD that passes its checks installs is legal (R102, R104). -/
theorem installDivisor_div_legal {s : State} (h : firstFault (checksOf .setbaud) s = none) :
    1 ≤ (s.installDivisor (divisor s.arg0 s.arg1)).div.toNat ∧
      (s.installDivisor (divisor s.arg0 s.arg1)).div.toNat ≤ s.params.divMax := by
  have range := firstFault_eq_none.1 h .divRange (by simp [checksOf])
  simp only [faultHolds, Bool.or_eq_false_iff, beq_eq_false_iff_ne, decide_eq_false_iff_not] at range
  have := Params.divMax_lt s.params
  rw [State.installDivisor_div, BitVec.toNat_ofNat, Nat.mod_eq_of_lt (by omega)]
  omega

/-- Every command that passes its checks keeps the boundary invariant (R55). -/
theorem boundaryInv_effect {i : Instr} {s : State} (hpass : firstFault (checksOf i) s = none) (h : BoundaryInv s) :
    BoundaryInv (effectOf i s) := by
  obtain ⟨hcsa, hdiv, hcode, hfcmd, hrovr, hfsm, hbusy⟩ := h
  cases i using Instr.casesBySending with
  | sends i hi =>
    obtain ⟨⟨hp, -, -, hc, hd, hw, ho, hf, hk, hs, -⟩, hst⟩ := effectOf_sends hi s
    simp only [BoundaryInv, hp, hc, hd, hw, ho, hf, hk, hs]
    exact ⟨hcsa, hdiv, hcode, hfcmd, fun _ => cfg_of_pass hi hpass, hfsm, by rw [hst]; rfl⟩
  | init hwcs rxen =>
    have closed : s.status.csa = false := firstFault_eq_none.1 hpass .csOpen List.mem_cons_self
    exact ⟨by simp [effectOf, closed], hdiv, hcode, hfcmd, by simp [effectOf], hfsm, hbusy⟩
  | setbaud => exact ⟨hcsa, .inr (installDivisor_div_legal hpass), hcode, hfcmd, hrovr, hfsm, hbusy⟩
  | setmode cpol cpha => exact ⟨hcsa, hdiv, hcode, hfcmd, hrovr, hfsm, hbusy⟩
  | rdbyte => exact ⟨hcsa, hdiv, hcode, hfcmd, hrovr, hfsm, hbusy⟩
  | csassert =>
    have cfg := cfg_of_notInit_pass List.mem_cons_self hpass
    have soft : s.config.hwcs = false := firstFault_eq_none.1 hpass .hwcsConflict (by simp [checksOf])
    exact ⟨fun _ => ⟨cfg, soft⟩, hdiv, hcode, hfcmd, hrovr, hfsm, hbusy⟩
  | csdeassert => exact ⟨by simp [effectOf], hdiv, hcode, hfcmd, hrovr, hfsm, hbusy⟩
  | delay us => exact ⟨hcsa, hdiv, hcode, hfcmd, hrovr, hfsm, hbusy⟩

/-- Settles O54. -/
theorem boundaryInvAtReset : Obligations.BoundaryInvAtReset :=
  boundaryInv_applyReset State.reset true

/-- Settles O55: whatever a step at a command boundary does, the boundary invariant survives it. -/
theorem boundaryInvIsKept : Obligations.BoundaryInvIsKept := by
  intro s t h hstep
  have ⟨_, _, _, _, _, idle, _⟩ := h
  exact step_boundary_keeps idle hstep h (fun _ _ _ _ _ _ _ hu => hu) (fun _ u => boundaryInv_applyReset u false)
    (fun _ code w _ => boundaryInv_raiseFault code w) (fun _ _ _ => boundaryInv_effect)

/-! ### The configuration invariant (R30, R36, R37, R41, R42) -/

theorem modeInv_applyReset (s : State) (rstN : Bool) : ModeInv (s.applyReset rstN) := by
  simp [ModeInv, Status.reset, ConfigReg.reset]

/-- Every command that passes its checks keeps the configuration invariant. -/
theorem modeInv_effect {i : Instr} {s : State} (hpass : firstFault (checksOf i) s = none) (h : ModeInv s) :
    ModeInv (effectOf i s) := by
  have ⟨hpu, hen, hdiv, hrx⟩ := h
  cases i using Instr.casesBySending with
  | sends i hi =>
    obtain ⟨⟨-, -, -, hc, hd, -⟩, -⟩ := effectOf_sends hi s
    have cfg := cfg_of_pass hi hpass
    simp only [ModeInv, hc, hd]
    exact ⟨hpu, hen, hdiv, fun _ => cfg⟩
  | init hwcs rxen => simp [ModeInv, effectOf, hpu]
  | setbaud =>
    have cfg := cfg_of_notInit_pass List.mem_cons_self hpass
    exact ⟨hpu, fun _ => cfg, fun _ => cfg, hrx⟩
  | setmode cpol cpha =>
    have cfg := cfg_of_notInit_pass List.mem_cons_self hpass
    exact ⟨rfl, fun _ => cfg, hdiv, hrx⟩
  | rdbyte => simpa [ModeInv, effectOf, hpu] using ⟨hen, hdiv⟩
  | csassert => exact h
  | csdeassert => exact h
  | delay us => exact h

/-- Settles O56. -/
theorem modeInvIsKept : Obligations.ModeInvIsKept :=
  ⟨modeInv_applyReset State.reset true, fun _ _ idle h hstep =>
    step_boundary_keeps idle hstep h (fun _ _ _ _ _ _ _ hu => hu) (fun _ u => modeInv_applyReset u false)
      (fun _ _ _ _ hu => hu) (fun _ _ _ => modeInv_effect)⟩

end Sys2Proof.Machine
end

section
/-! Proofs of spec/10_state.md's family: what each command writes of the host-visible registers (R25 to R27, R35 to
R42), the registers' words (R28, R35), the window's reads and writes (R24, R61), the reset values (R56), and the lines
at a command boundary (R51 to R53). -/

namespace Sys2Proof.Machine

/-! ### What commands write -/

/-- What no command touches (R20, R25, R26), as a relation of the states before and after it. -/
def KeepsHostSide (s t : State) : Prop :=
  t.arg0 = s.arg0 ∧ t.arg1 = s.arg1 ∧ t.params = s.params ∧ t.rstN = s.rstN ∧ t.blkClk = s.blkClk ∧
    t.host = s.host ∧ t.replies = s.replies ∧ t.fsm = s.fsm

theorem effectOf_keepsHostSide (i : Instr) (s : State) : KeepsHostSide s (effectOf i s) := by
  cases i using Instr.casesBySending with
  | sends i hi =>
    obtain ⟨⟨hp, h0, h1, -, -, -, -, -, -, hfsm, hrst, hclk, hhost, hrep⟩, -⟩ := effectOf_sends hi s
    exact ⟨h0, h1, hp, hrst, hclk, hhost, hrep, hfsm⟩
  | _ => exact ⟨rfl, rfl, rfl, rfl, rfl, rfl, rfl, rfl⟩

/-- Settles O42: a command leaves the state, raises a fault or has its effect, and none of the three reaches them. -/
theorem commandsKeepOperandsAndHost : Obligations.CommandsKeepOperandsAndHost := by
  intro i s t h
  obtain ⟨-, rfl⟩ | ⟨-, code, -, rfl⟩ | ⟨-, -, rfl⟩ := exec_cases h
  · exact ⟨rfl, rfl, rfl, rfl, rfl, rfl, rfl, rfl⟩
  · exact ⟨rfl, rfl, rfl, rfl, rfl, rfl, rfl, rfl⟩
  · exact effectOf_keepsHostSide i s

/-- A command that writes DIV or the mode is SETBAUD or SETMODE, and leaves the peripheral enabled (R59). -/
theorem effectOf_mode_writers (i : Instr) (s : State) :
    ((effectOf i s).div = s.div ∧ (effectOf i s).config.cpol = s.config.cpol ∧
      (effectOf i s).config.cpha = s.config.cpha ∧ (effectOf i s).config.sckpu = s.config.sckpu) ∨
    (i = .setbaud ∨ ∃ cpol cpha, i = .setmode cpol cpha) ∧ (effectOf i s).config.en = true := by
  cases i using Instr.casesBySending with
  | sends i hi =>
    obtain ⟨⟨-, -, -, hc, hd, -⟩, -⟩ := effectOf_sends hi s
    simp [hc, hd]
  | setbaud => exact .inr ⟨.inl rfl, rfl⟩
  | setmode cpol cpha => exact .inr ⟨.inr ⟨cpol, cpha, rfl⟩, rfl⟩
  | _ => exact .inl ⟨rfl, rfl, rfl, rfl⟩

/-- A command that writes HWCS or RXEN is INIT, and leaves the peripheral disabled (R59). -/
theorem effectOf_wiring_writers (i : Instr) (s : State) :
    ((effectOf i s).config.hwcs = s.config.hwcs ∧ (effectOf i s).config.rxen = s.config.rxen) ∨
    (∃ hwcs rxen, i = .init hwcs rxen) ∧ (effectOf i s).config.en = false := by
  cases i using Instr.casesBySending with
  | sends i hi =>
    obtain ⟨⟨-, -, -, hc, -⟩, -⟩ := effectOf_sends hi s
    simp [hc]
  | init hwcs rxen => exact .inr ⟨⟨hwcs, rxen, rfl⟩, rfl⟩
  | _ => exact .inl ⟨rfl, rfl⟩

/-- Settles O14: a command that is ignored or faults writes no field of the configuration, and only the effects named
do. -/
theorem configurationHasItsOwnWriters : Obligations.ConfigurationHasItsOwnWriters := by
  intro i s t h
  obtain ⟨-, rfl⟩ | ⟨-, code, -, rfl⟩ | ⟨-, -, rfl⟩ := exec_cases h
  · simp
  · simp
  · constructor
    · intro changed
      obtain ⟨hd, hl, ha, hp⟩ | writer := effectOf_mode_writers i s
      · simp [hd, hl, ha, hp] at changed
      · exact writer
    · intro changed
      obtain ⟨hh, hr⟩ | writer := effectOf_wiring_writers i s
      · simp [hh, hr] at changed
      · exact writer

/-- Settles O19: the effect of every other command keeps RESULT, and a read widens its byte with zeros. -/
theorem resultHasTwoWriters : Obligations.ResultHasTwoWriters := by
  refine ⟨fun i s t h changed => ?_, fun s => ⟨zext32 s.result, rfl, ?_, ?_⟩, rfl⟩
  · by_contra other
    obtain ⟨notRead, notTransact⟩ := not_or.1 other
    obtain ⟨-, rfl⟩ | ⟨-, code, -, rfl⟩ | ⟨-, -, rfl⟩ := exec_cases h
    · exact changed rfl
    · exact changed rfl
    · exact changed (effectOf_result notRead (fun opc reg heq => notTransact ⟨opc, reg, heq⟩) s)
  · rw [zext32_eq_append, BitVec.extractLsb'_append_eq_left]
  · rw [zext32_eq_append, BitVec.extractLsb'_append_eq_right]

/-! ### What the environment reaches -/

/-- Two states that agree on every register the host can read but RESULT (R18, R24). -/
def SameRegisters (t u : State) : Prop :=
  t.arg0 = u.arg0 ∧ t.arg1 = u.arg1 ∧ t.status = u.status ∧ t.config = u.config ∧ t.div = u.div ∧ t.fcmd = u.fcmd

theorem SameRegisters.readReg {t u : State} (h : SameRegisters t u) {r : Reg} (hr : r ≠ .result) :
    t.readReg r = u.readReg r := by
  obtain ⟨h0, h1, hst, hc, hd, hf⟩ := h
  cases r with
  | result => exact absurd rfl hr
  | _ => simp only [State.readReg, h0, h1, hst, hc, hd, hf]

theorem SameRegisters.hostVisible {t u : State} (h : SameRegisters t u) (hr : t.result = u.result) :
    hostVisible t = hostVisible u := by
  obtain ⟨h0, h1, hst, hc, hd, hf⟩ := h
  simp only [Machine.hostVisible, List.map, State.readReg, h0, h1, hst, hc, hd, hf, hr]

/-- An effect writes the same registers whatever the environment holds, RESULT apart (R129). -/
theorem effectOf_env_registers (i : Instr) (s : State) (e : Env) :
    SameRegisters (effectOf i s) (effectOf i { s with env := e }) := by
  cases i using Instr.casesBySending with
  | sends i hi =>
    obtain ⟨⟨-, h0, h1, hc, hd, hw, -⟩, hst⟩ := effectOf_sends hi s
    obtain ⟨⟨-, h0', h1', hc', hd', hw', -⟩, hst'⟩ := effectOf_sends hi { s with env := e }
    simp only [SameRegisters, h0, h1, hc, hd, hw, hst, h0', h1', hc', hd', hw', hst', and_self]
  | _ => exact ⟨rfl, rfl, rfl, rfl, rfl, rfl⟩

/-- Only TRANSACT.R brings what the environment answers to RESULT within one command (R129, R162). -/
theorem effectOf_env_result {i : Instr} (hi : ∀ opc reg, i ≠ .transactR opc reg) (s : State) (e : Env) :
    (effectOf i s).result = (effectOf i { s with env := e }).result := by
  by_cases hr : i = .rdbyte
  · subst hr
    rfl
  · rw [effectOf_result hr hi, effectOf_result hr hi]

/-- Settles O34: both runs take the same branch, since no check looks at the environment. -/
theorem environmentReachesOnlyResult : Obligations.EnvironmentReachesOnlyResult := by
  intro i s t t' e h h'
  have outcome : SameRegisters t t' ∧ ((∀ opc reg, i ≠ .transactR opc reg) → t.result = t'.result) := by
    rw [exec_eq] at h h'
    cases hf : s.status.fault with
    | true =>
      rw [runCommand_ignored hf] at h
      rw [runCommand_ignored (s := { s with env := e }) hf] at h'
      cases h; cases h'
      exact ⟨⟨rfl, rfl, rfl, rfl, rfl, rfl⟩, fun _ => rfl⟩
    | false =>
      cases hc : firstFault (checksOf i) s with
      | some code =>
        rw [runCommand_faults hf hc] at h
        rw [runCommand_faults (s := { s with env := e }) hf (firstFault_env _ s e ▸ hc)] at h'
        cases h; cases h'
        exact ⟨⟨rfl, rfl, rfl, rfl, rfl, rfl⟩, fun _ => rfl⟩
      | none =>
        rw [runCommand_effect hf hc] at h
        rw [runCommand_effect (s := { s with env := e }) hf (firstFault_env _ s e ▸ hc)] at h'
        cases h; cases h'
        exact ⟨effectOf_env_registers i s e, fun hi => effectOf_env_result hi s e⟩
  obtain ⟨same, result⟩ := outcome
  exact ⟨fun r hr => same.readReg hr, fun hi => same.hostVisible (result hi)⟩

/-! ### The words of STATUS and CONFIG -/

/-- The STATUS word bit by bit (R28). -/
theorem getLsbD_statusWord (st : Status) (k : Nat) : (statusWord st).getLsbD k =
    if k = 0 then st.busy else if k = 1 then st.rxfull else if k = 2 then st.rovr else if k = 3 then st.csa
    else if k = 4 then st.fault else if k < 8 then false else st.fcode.getLsbD (k - 8) := by
  change BitVec.getLsbD (w := 20 + 4 + 3 + 1 + 1 + 1 + 1 + 1) (statusWord st) k = _
  simp only [statusWord, BitVec.getLsbD_append]
  obtain _ | _ | _ | _ | _ | k := k
  iterate 5 · simp
  by_cases hk : k < 3
  · simp [hk]
  · simpa [hk, show ¬k + 1 + 1 + 1 + 1 + 1 < 8 by omega] using BitVec.lt_of_getLsbD

/-- The CONFIG word bit by bit (R35). -/
theorem getLsbD_configWord (c : ConfigReg) (k : Nat) : (configWord c).getLsbD k =
    if k = 0 then c.cfg else if k = 1 then c.en else if k = 2 then c.hwcs else if k = 3 then c.rxen
    else if k = 4 then c.cpha else if k = 5 then c.cpol else if k = 6 then c.sckpu else false := by
  change BitVec.getLsbD (w := 25 + 1 + 1 + 1 + 1 + 1 + 1 + 1) (configWord c) k = _
  simp only [configWord, BitVec.getLsbD_append]
  obtain _ | _ | _ | _ | _ | _ | _ | k := k <;> simp

/-- Settles O43, bit by bit. -/
theorem statusWordBits : Obligations.StatusWordBits := by
  intro st
  have bits := getLsbD_statusWord st
  refine ⟨bits 0, bits 1, bits 2, bits 3, bits 4, ?_, ?_, ?_⟩
  all_goals
    ext k hk
    rw [BitVec.getElem_extractLsb', bits, Nat.add_comm]
  · simp [show k + 5 < 8 by omega]
  · simp [BitVec.getLsbD_eq_getElem hk]
  · simp

/-- Settles O44, bit by bit. -/
theorem configWordBits : Obligations.ConfigWordBits := by
  intro c
  have bits := getLsbD_configWord c
  refine ⟨bits 0, bits 1, bits 2, bits 3, bits 4, bits 5, bits 6, ?_⟩
  ext k hk
  rw [BitVec.getElem_extractLsb', bits, Nat.add_comm]
  simp

/-! ### The host window -/

/-- What a host reads does not depend on the steps it still has to come. -/
theorem State.readReg_host (s : State) (rest : List HostStep) (r : Reg) :
    ({ s with host := rest } : State).readReg r = s.readReg r := by
  cases r <;> rfl

/-- A step that serves a read answers the register's value and does nothing else (R61, R68). -/
theorem step_read {s : State} {r : Reg} {v : Word} {rest : List HostStep} (hb : AtBoundary s)
    (hh : s.host = .read (offsetOf r) 4 :: rest) (hv : s.readReg r = some v) :
    step s = .next { s with host := rest, replies := s.replies ++ [.data v] } := by
  rw [step_served hb.1 hh, serve, hostRead_reg (s := { s with host := rest }) hb, State.readReg_host, hv]
  rfl

/-- A step that serves a write does what the write does, and completes it (R61, R72). -/
theorem step_write {s : State} {r : Reg} {v : Word} {rest : List HostStep} (hb : AtBoundary s)
    (hh : s.host = .write (offsetOf r) 4 v :: rest) :
    step s = completeWrite (writeReg r v { s with host := rest }) := by
  rw [step_served hb.1 hh, serve, hostWrite_reg (s := { s with host := rest }) hb]

/-- Settles O45: each offset is its register's. -/
theorem windowReadsAndArgWrites : Obligations.WindowReadsAndArgWrites := by
  intro v rest s hb
  exact ⟨fun hh => step_read (r := .arg0) hb hh rfl, fun hh => step_read (r := .arg1) hb hh rfl,
    fun hh => step_read (r := .result) hb hh (congrArg some (zext32_eq_append s.result)),
    fun hh => step_read (r := .status) hb hh rfl, fun hh => step_read (r := .config) hb hh rfl,
    fun hh => step_read (r := .div) hb hh rfl, fun hh => step_read (r := .fcmd) hb hh rfl,
    fun hh => step_write (r := .arg0) hb hh, fun hh => step_write (r := .arg1) hb hh⟩

/-- Settles O51. -/
theorem resetValues : Obligations.ResetValues := by
  refine ⟨rfl, rfl, rfl, rfl, rfl, rfl, rfl, rfl, rfl, rfl, rfl, rfl, rfl, rfl, rfl, rfl⟩

/-! ### The lines at a command boundary -/

/-- `cs_n_o` between commands: only an open software transaction holds it low (R51). -/
theorem csN_idle {s : State} (idle : s.fsm = .idle) :
    csN s = if s.config.cfg then Level.ofBit (s.config.hwcs || !s.status.csa) else .hiZ := by
  cases hc : s.config.cfg <;> cases hh : s.config.hwcs <;> simp [csN, idle, inFrame, holdsSelect, hc, hh]

/-- `sck_o` between commands: driven at its idle level while the peripheral is enabled, left to the pad while not
(R52). -/
theorem sck_idle {s : State} (idle : s.fsm = .idle) :
    sck s = if s.config.cfg then
        if s.config.en then Level.ofBit s.config.cpol else if s.config.sckpu then .pulledHigh else .hiZ
      else .hiZ := by
  cases hc : s.config.cfg <;> simp [sck, idle, inFrame, hc]

/-- Settles O53. -/
theorem lineLevelsAtABoundary : Obligations.LineLevelsAtABoundary := by
  intro s idle
  rw [csN_idle idle, sck_idle idle]
  refine ⟨fun hcfg => ?_, fun hcfg hsoft hopen => ?_, fun hcfg hsoft hclosed => ?_, fun hcfg hhard => ?_,
    fun hcfg hen hpol => ?_, fun hcfg hen hpol => ?_, fun hcfg hen hpu => ?_, fun hcfg hen hpu => ?_, rfl, rfl⟩
  · simp [mosi, hcfg]
  · simp [hcfg, hsoft, hopen]
  · simp [hcfg, hclosed]
  · simp [hcfg, hhard]
  · simp [hcfg, hen, hpol]
  · simp [hcfg, hen, hpol]
  · simp [hcfg, hen, hpu]
  · simp [hcfg, hen, hpu]

end Sys2Proof.Machine
end

section
/-! Proofs of spec/10_state.md's family: the trace only grows (R44), and the select line's changes in it, over a whole
command and over each state of the sequencer (R51, R130, R149). -/

namespace Sys2Proof.Machine

/-! ### The trace only grows (R44) -/

/-- Drained frames add to the trace. -/
theorem State.trace_grows_shiftAll (s : State) (bytes : List Byte) : s.trace <+: (s.shiftAll bytes).trace := by
  induction bytes generalizing s with
  | nil => exact ⟨[], by simp [State.shiftAll]⟩
  | cons b rest ih =>
    have frame : s.trace <+: (s.shiftByte b).drain.trace := by simp
    exact frame.trans (ih _)

/-- A BURST adds to the trace (R145). -/
theorem State.trace_grows_burst (s : State) (bytes : List Byte) : s.trace <+: (s.burst bytes).trace := by
  have opened : s.trace <+: s.selOn.trace := by simp
  have sent := opened.trans (s.selOn.trace_grows_shiftAll bytes)
  simpa [State.burst] using sent.trans ⟨_, rfl⟩

/-- Three drained frames in a TRANSACT's bracket add to the trace (R160). -/
theorem State.trace_grows_bracket (s : State) (bytes : List Byte) :
    s.trace <+: (s.settle.selOn.shiftAll bytes).transactTail.trace := by
  have opened : s.trace <+: s.settle.selOn.trace := by simp
  have sent := opened.trans (s.settle.selOn.trace_grows_shiftAll bytes)
  simpa using sent.trans ⟨_, rfl⟩

/-- The events of a TRANSACT.R are those of the TRANSACT.W that sends its bytes (R162). -/
theorem effectOf_transactR_trace (opc reg : Byte) (s : State) :
    (effectOf (.transactR opc reg) s).trace = (effectOf (.transactW opc reg 0#8) s).trace := by
  simp [effectOf_transactR, effectOf_transactW]

/-- No command removes events from the trace. -/
theorem trace_grows_effectOf (i : Instr) (s : State) : s.trace <+: (effectOf i s).trace := by
  cases i with
  | wrbyte data => simp [effectOf]
  | transactW opc reg data =>
    rw [effectOf_transactW]
    exact s.trace_grows_bracket [opc, reg, data]
  | transactR opc reg =>
    rw [effectOf_transactR_trace, effectOf_transactW]
    exact s.trace_grows_bracket [opc, reg, 0#8]
  | burst1 b0 => exact s.trace_grows_burst [b0]
  | burst2 b0 b1 => exact s.trace_grows_burst [b0, b1]
  | burst3 b0 b1 b2 => exact s.trace_grows_burst [b0, b1, b2]
  | _ => simp [effectOf]

/-- Settles O59: a step adds to the trace at a command boundary and in the middle of a command. -/
theorem traceOnlyGrows : Obligations.TraceOnlyGrows := by
  intro s t noReset h
  by_cases idle : s.fsm = .idle
  · have grows : s.trace <+: t.trace :=
      step_boundary_keeps (P := fun u => s.trace <+: u.trace) idle h ⟨[], by simp⟩ (fun _ _ _ _ _ _ _ hu => hu)
        (fun reset => absurd reset noReset) (fun _ _ _ _ hu => hu)
        (fun i u _ _ hu => hu.trans (trace_grows_effectOf i u))
    obtain ⟨events, heq⟩ := grows
    exact ⟨events, heq.symm⟩
  · rw [step_midCommand idle h]
    obtain ⟨-, -, -, -, grows⟩ := seqStep_keeps s
    exact grows

/-! ### The select line after a trace (R51) -/

/-- The trace's falls and rises alternate and leave the select line low, or high (R44, R51). -/
def LineIs (low : Bool) (trace : List WireEvent) : Prop := selectAfter trace.reverse = some low

theorem LineIs.csFall {trace : List WireEvent} (h : LineIs false trace) : LineIs true (trace ++ [.csFall]) := by
  unfold LineIs at *
  simp [selectAfter, h]

theorem LineIs.csRise {trace : List WireEvent} (h : LineIs true trace) : LineIs false (trace ++ [.csRise]) := by
  unfold LineIs at *
  simp [selectAfter, h]

/-- A frame or a wait leaves the select line where it is. -/
theorem LineIs.other {low : Bool} {trace : List WireEvent} {e : WireEvent} (h : LineIs low trace)
    (he : isSelectEvent e = false) : LineIs low (trace ++ [e]) := by
  unfold LineIs at *
  cases e with
  | csFall => cases he
  | csRise => cases he
  | frame tx rx cpol cpha div => cases low <;> simp [selectAfter, h]
  | wait kind n => cases low <;> simp [selectAfter, h]

/-- With HWCS = 0 drained frames leave the select line where it is (R130). -/
theorem LineIs.shiftAll {low : Bool} {s : State} {bytes : List Byte} (hsel : s.config.hwcs = false)
    (h : LineIs low s.trace) : LineIs low (s.shiftAll bytes).trace := by
  induction bytes generalizing s with
  | nil => exact h
  | cons b rest ih =>
    refine ih (by simp [hsel]) ?_
    rw [State.drain_trace, State.shiftByte_trace_of_hwcs_false b hsel]
    exact h.other rfl

/-- `SelOn` takes a high select line low (R143). -/
theorem LineIs.selOn {s : State} (h : LineIs false s.trace) : LineIs true s.selOn.trace :=
  h.csFall.other (e := .wait .css s.params.tCssCyc) rfl

/-- A BURST leaves a high select line high (R145). -/
theorem LineIs.burst {s : State} {bytes : List Byte} (hsel : s.config.hwcs = false) (h : LineIs false s.trace) :
    LineIs false (s.burst bytes).trace :=
  (h.selOn.shiftAll (s := s.selOn) hsel).csRise

/-- Drained frames in a TRANSACT's bracket leave a high select line high (R160). -/
theorem LineIs.bracket {s : State} {bytes : List Byte} (hsel : s.config.hwcs = false) (h : LineIs false s.trace) :
    LineIs false (s.settle.selOn.shiftAll bytes).transactTail.trace := by
  have settled : LineIs false s.settle.trace := h.other rfl
  have sent : LineIs true (s.settle.selOn.shiftAll bytes).trace := settled.selOn.shiftAll hsel
  exact sent.csRise.other (e := .wait .settle _) rfl

/-- One frame leaves the select line where it is: with HWCS = 1 it lowers a high line and raises it again (R130). -/
theorem LineIs.shiftByte {low : Bool} {s : State} (tx : Byte) (hsel : low = true → s.config.hwcs = false)
    (h : LineIs low s.trace) : LineIs low (s.shiftByte tx).trace := by
  cases hh : s.config.hwcs with
  | false =>
    rw [State.shiftByte_trace_of_hwcs_false tx hh]
    exact h.other rfl
  | true =>
    obtain rfl : low = false := by simpa [hh] using hsel
    rw [State.shiftByte_trace, frameEvents, if_pos hh]
    simpa using (h.csFall.other (e := .frame tx (s.misoByte tx) s.config.cpol s.config.cpha s.div) rfl).csRise

/-- BURST and TRANSACT pass their checks with the select line under software control and high (R145, R160). -/
theorem transferChecks_select {s : State} (h : firstFault transferChecks s = none) :
    s.config.hwcs = false ∧ s.status.csa = false :=
  ⟨firstFault_eq_none.1 h .hwcsConflict (by simp [transferChecks]),
    firstFault_eq_none.1 h .csOpen (by simp [transferChecks])⟩

/-- Every command that passes its checks leaves the select line low exactly when a software transaction is open
(R149). -/
theorem selectInv_effect {i : Instr} {s : State} (hpass : firstFault (checksOf i) s = none) (hb : BoundaryInv s)
    (h : SelectInv s) : SelectInv (effectOf i s) := by
  have line : LineIs s.status.csa s.trace := h
  have bracketed (hcheck : checksOf i = transferChecks) (hi : bytesSent i ≠ [])
      (hline : s.config.hwcs = false → LineIs false s.trace → LineIs false (effectOf i s).trace) :
      SelectInv (effectOf i s) := by
    obtain ⟨hsel, hcsa⟩ := transferChecks_select (hcheck ▸ hpass)
    obtain ⟨⟨-, -, -, -, -, -, hkeep, -⟩, -⟩ := effectOf_sends hi s
    rw [SelectInv, hkeep, hcsa]
    exact hline hsel (hcsa ▸ line)
  cases i with
  | wrbyte data =>
    rw [SelectInv, effectOf, State.shiftByte_status]
    have ⟨hcsa, _⟩ := hb
    exact line.shiftByte data fun hopen => (hcsa hopen).2
  | transactW opc reg data =>
    refine bracketed rfl (by simp [bytesSent]) ?_
    rw [effectOf_transactW]
    exact LineIs.bracket
  | transactR opc reg =>
    refine bracketed rfl (by simp [bytesSent]) ?_
    rw [effectOf_transactR_trace, effectOf_transactW]
    exact LineIs.bracket
  | burst1 b0 => exact bracketed rfl (by simp [bytesSent]) LineIs.burst
  | burst2 b0 b1 => exact bracketed rfl (by simp [bytesSent]) LineIs.burst
  | burst3 b0 b1 b2 => exact bracketed rfl (by simp [bytesSent]) LineIs.burst
  | csassert =>
    have closed : s.status.csa = false := firstFault_eq_none.1 hpass .csOpen (by simp [checksOf])
    exact LineIs.selOn (s := s.setOpen true) (closed ▸ line)
  | csdeassert =>
    have opened : s.status.csa = true := by
      simpa [faultHolds] using firstFault_eq_none.1 hpass .csNotOpen (by simp [checksOf])
    exact (opened ▸ line).csRise
  | delay us => exact line.other rfl
  | _ => exact h

/-- Settles O57. -/
theorem traceRecordsTheSelectLine : Obligations.TraceRecordsTheSelectLine := by
  refine ⟨rfl, fun s t hb h hstep => ?_, fun s hb h hcfg => ?_⟩
  · have ⟨_, _, _, _, _, idle, _⟩ := hb
    have ⟨_, kept⟩ := step_boundary_keeps (P := fun u => BoundaryInv u ∧ SelectInv u) idle hstep ⟨hb, h⟩
      (fun _ _ _ _ _ _ _ hu => hu) (fun _ u => ⟨boundaryInv_applyReset u false, rfl⟩)
      (fun _ code w _ ⟨hb, hs⟩ => ⟨boundaryInv_raiseFault code w hb, hs⟩)
      (fun _ _ _ hpass ⟨hb, hs⟩ => ⟨boundaryInv_effect hpass hb, selectInv_effect hpass hb hs⟩)
    exact kept
  · obtain ⟨hcsa, -, -, -, -, idle, -⟩ := hb
    rw [csN_idle idle, h]
    cases hopen : s.status.csa with
    | true => simp [hcfg, hcsa hopen]
    | false => simp [hcfg]

end Sys2Proof.Machine
end

section
/-! Proofs of spec/10_state.md's family: inside a command every change of the select line is recorded (R51, R130,
R132, R146, R163). -/

namespace Sys2Proof.Machine

/-! ### Where the sequencer goes -/

@[simp] theorem holdsSelect_nextShift (j : Nat) (bytes : List Byte) : holdsSelect (nextShift j bytes) = true := by
  cases bytes <;> rfl

@[simp] theorem holdsSelect_afterTrail (k : Nat) (sh : Shifting) (c : Caller) :
    holdsSelect (afterTrail k sh c) = callerHoldsSelect c := by
  cases k <;> rfl

@[simp] theorem ownsSelect_afterTrail (k : Nat) (sh : Shifting) (c : Caller) :
    ownsSelect (afterTrail k sh c) = callerHoldsSelect c := by
  cases k <;> rfl

@[simp] theorem inFrame_afterTrail (k : Nat) (sh : Shifting) (c : Caller) : inFrame (afterTrail k sh c) = some sh := by
  cases k <;> rfl

/-- Back in the caller's state after a frame (R132): nothing of the select line has moved, and whoever held it holds
it. -/
@[simp] theorem State.resume_select (s : State) (c : Caller) :
    (s.resume c).config = s.config ∧ (s.resume c).status.csa = s.status.csa ∧ (s.resume c).trace = s.trace ∧
      inFrame (s.resume c).fsm = none ∧ holdsSelect (s.resume c).fsm = callerHoldsSelect c ∧
      ownsSelect (s.resume c).fsm = callerHoldsSelect c := by
  cases c with
  | raDat a =>
    cases hw : a.write <;> simp [State.resume, hw, inFrame, holdsSelect, ownsSelect, callerHoldsSelect]
  | _ => exact ⟨rfl, rfl, rfl, rfl, rfl, rfl⟩

/-- A state of the sequencer keeps CONFIG and CSA. -/
theorem seqStep_config_csa (s : State) : s.seqStep.config = s.config ∧ s.seqStep.status.csa = s.status.csa := by
  unfold State.seqStep
  split <;> simp [State.frameStart_eq, State.frameEnd_eq]

/-- A state of BURST or TRANSACT follows only another one (R146, R163). -/
theorem ownsSelect_of_seqStep {s : State} (h : ownsSelect s.seqStep.fsm = true) : ownsSelect s.fsm = true := by
  cases hfsm : s.fsm with
  | idle => simpa [State.seqStep, hfsm] using h
  | txLoad tx c => simpa [State.seqStep, hfsm, ownsSelect] using h
  | txBit k phase sh c =>
    cases phase <;> simp only [State.seqStep, hfsm, ownsSelect_afterTrail] at h <;> exact h
  | txDone sh c =>
    simp only [State.seqStep, hfsm, State.resume_select] at h
    exact h
  | _ => rfl

theorem sequencerSelectInv_seqStep {s : State} (h : SequencerSelectInv s) : SequencerSelectInv s.seqStep := by
  obtain ⟨hcfg, hcsa, howns⟩ := h
  obtain ⟨config, csa⟩ := seqStep_config_csa s
  rw [SequencerSelectInv, config, csa]
  exact ⟨hcfg, hcsa, fun owns => howns (ownsSelect_of_seqStep owns)⟩

/-! ### Where a command starts -/

/-- The commands with sequencer states are those that send bytes (R132, R146, R163). -/
theorem bytesSent_of_entry {i : Instr} (h : entryState i ≠ .idle) : bytesSent i ≠ [] := by
  cases i <;> simp_all [entryState, bytesSent]

/-- The commands that start in a state of BURST or TRANSACT have their checks (R145, R160). -/
theorem checksOf_of_ownsSelect_entry {i : Instr} (h : ownsSelect (entryState i) = true) :
    checksOf i = transferChecks := by
  cases i <;> simp_all [entryState, ownsSelect, callerHoldsSelect, checksOf]

/-- A command that starts in a state of the boundary invariant starts with the select line in the hands of one owner. -/
theorem sequencerSelectInv_entry {i : Instr} {s : State} (hb : BoundaryInv s) (hentry : entryState i ≠ .idle)
    (hpass : firstFault (checksOf i) s = none) : SequencerSelectInv { s with fsm := entryState i } := by
  obtain ⟨hcsa, -⟩ := hb
  exact ⟨cfg_of_pass (bytesSent_of_entry hentry) hpass, fun hopen => (hcsa hopen).2,
    fun owns => transferChecks_select (checksOf_of_ownsSelect_entry owns ▸ hpass)⟩

/-! ### What one state of the sequencer records -/

/-- The select line of an initialized block is low: the internal select logic is inside a frame, or software or a
BURST or TRANSACT holds it (R51, R130). -/
def selectLow (s : State) : Bool :=
  if s.config.hwcs then (inFrame s.fsm).isSome else s.status.csa || holdsSelect s.fsm

theorem csN_initialized {s : State} (hcfg : s.config.cfg = true) : csN s = Level.ofBit (!selectLow s) := by
  cases hh : s.config.hwcs <;> simp [csN, selectLow, hcfg, hh]

/-- The select events of a change of the line from one level to another (R51). -/
def selectChange (low low' : Bool) : List WireEvent :=
  match low, low' with
  | false, true => [.csFall]
  | true, false => [.csRise]
  | false, false => []
  | true, true => []

@[simp] theorem selectChange_fall : selectChange false true = [.csFall] := rfl

@[simp] theorem selectChange_rise : selectChange true false = [.csRise] := rfl

@[simp] theorem selectChange_self (low : Bool) : selectChange low low = [] := by
  cases low <;> rfl

/-- A state of the sequencer records exactly the change it makes to the select line (R51). -/
theorem seqStep_records_select {s : State} (h : SequencerSelectInv s) :
    ∃ events, s.seqStep.trace = s.trace ++ events ∧
      events.filter isSelectEvent = selectChange (selectLow s) (selectLow s.seqStep) := by
  obtain ⟨-, -, howns⟩ := h
  obtain ⟨config, csa⟩ := seqStep_config_csa s
  simp only [selectLow, config, csa]
  cases hfsm : s.fsm with
  | txLoad tx c =>
    refine ⟨if s.config.hwcs then [.csFall] else [], by simp [State.seqStep, hfsm, State.frameStart_eq], ?_⟩
    cases hh : s.config.hwcs <;> simp [State.seqStep, hfsm, inFrame, holdsSelect, isSelectEvent]
  | txDone sh c =>
    refine ⟨.frame sh.tx sh.rx s.config.cpol s.config.cpha s.div :: if s.config.hwcs then [.csRise] else [],
      by simp [State.seqStep, hfsm, State.frameEnd_eq], ?_⟩
    simp only [State.seqStep, hfsm, State.resume_select]
    cases hh : s.config.hwcs <;> simp [inFrame, holdsSelect, isSelectEvent]
  | txBit k phase sh c =>
    refine ⟨[], by cases phase <;> simp [State.seqStep, hfsm], ?_⟩
    cases phase <;> simp only [State.seqStep, hfsm, inFrame_afterTrail, holdsSelect_afterTrail] <;>
      simp [inFrame, holdsSelect]
  | idle => exact ⟨[], by simp [State.seqStep, hfsm], by simp [State.seqStep, hfsm]⟩
  | _ =>
    obtain ⟨hsel, hclosed⟩ := howns (by rw [hfsm]; rfl)
    simp only [State.seqStep, hfsm, hsel, hclosed, holdsSelect_nextShift]
    simp [holdsSelect, callerHoldsSelect, isSelectEvent]

/-- Settles O58. -/
theorem selectChangesAreRecorded : Obligations.SelectChangesAreRecorded := by
  refine ⟨fun i s t hb hf hentry hexec ht => sequencerSelectInv_entry hb hentry (exec_passed hf hexec ht).1,
    fun s h => ⟨sequencerSelectInv_seqStep h, ?_⟩⟩
  obtain ⟨events, htrace, hevents⟩ := seqStep_records_select h
  have ⟨hcfg, _⟩ := h
  have ⟨hcfg', _⟩ := sequencerSelectInv_seqStep h
  refine ⟨events, htrace, ?_⟩
  rw [hevents, csN_initialized hcfg, csN_initialized hcfg']
  cases selectLow s <;> cases selectLow s.seqStep <;> rfl

end Sys2Proof.Machine
end

section
/-! Proofs of spec/20_memory.md's family: which accesses the host window refuses (R63), the accesses that the clock gate
or reset keeps out (R77, R210), and the stall in the middle of a command (R72). -/

namespace Sys2Proof.Machine

/-! ### Accesses among the host's steps -/

/-- A host step that is a memory access (R234). -/
def IsAccess (h : HostStep) : Prop :=
  (∃ off width, h = .read off width) ∨ ∃ off width v, h = .write off width v

/-- An access moves no pin. -/
theorem IsAccess.isPinChange {h : HostStep} (ha : IsAccess h) : Machine.isPinChange h = false := by
  obtain ⟨off, width, rfl⟩ | ⟨off, width, v, rfl⟩ := ha <;> rfl

/-! ### The stall in the middle of a command (R72) -/

/-- With an access next, a step in the middle of a command performs one state of the sequencer. -/
theorem step_stalled {h : HostStep} {rest : List HostStep} {s : State} (hi : s.fsm ≠ .idle) (hh : s.host = h :: rest)
    (ha : IsAccess h) : step s = .next s.seqStep := by
  simp [step, tick, hi, midCommandStep, hh, ha.isPinChange]

/-- Settles O49: no state of the sequencer reaches the host's side or the operands. -/
theorem hostIsStalledInsideACommand : Obligations.HostIsStalledInsideACommand := by
  intro h rest s hi hh ha
  obtain ⟨harg0, harg1, hhost, hreplies, -⟩ := seqStep_keeps s
  exact ⟨s.seqStep, step_stalled hi hh ha, hhost, hreplies, harg0, harg1⟩

/-! ### Accesses kept out by the clock gate or by reset (R77, R210) -/

/-- A block that is out of reset with its clock gate closed or unsettled names the gate (R77, log 9). -/
theorem accessGate_clockGated {s : State} (hr : s.rstN = true) (hc : s.blkClk ≠ .settled) :
    accessGate s = some .clockGated := by
  cases hclk : s.blkClk with
  | settled => exact absurd hclk hc
  | closed => simp [accessGate, hr, hclk]
  | settling => simp [accessGate, hr, hclk]

/-- A block in reset names the reset, whatever its clock gate (R210, log 9). -/
theorem accessGate_heldInReset {s : State} (hr : s.rstN = false) : accessGate s = some .heldInReset := by
  simp [accessGate, hr]

/-- While the block takes no accesses, serving one is refused for the reason the block names. -/
theorem IsAccess.serve_kept_out {h : HostStep} {s : State} {why : Refusal} (ha : IsAccess h)
    (hg : accessGate s = some why) : serve h s = .refused why := by
  obtain ⟨off, width, rfl⟩ | ⟨off, width, v, rfl⟩ := ha
  · simp only [serve, hostRead, hg]
  · simp only [serve, hostWrite, hg]

/-- Settles O47: the access reaches no register, since the block takes none. -/
theorem gatedAccessesAreRefused : Obligations.GatedAccessesAreRefused := by
  intro h rest s hi hh ha
  have refused {why : Refusal} (hg : accessGate { s with host := rest } = some why) : step s = .refused why := by
    rw [step_served hi hh, IsAccess.serve_kept_out ha hg]
  have held (hr : s.rstN = false) : step s = .refused .heldInReset := refused (accessGate_heldInReset hr)
  have gated (hr : s.rstN = true) (hc : s.blkClk ≠ .settled) : step s = .refused .clockGated :=
    refused (accessGate_clockGated hr hc)
  refine ⟨fun hc => ?_, fun hr => ⟨_, held hr⟩, gated⟩
  cases hr : s.rstN with
  | true => exact ⟨_, gated hr hc⟩
  | false => exact ⟨_, held hr⟩

/-! ### The refused accesses of the window (R63) -/

/-- The window's registers lie at its aligned offsets (R24, R60). -/
theorem offsetOf_in_window (r : Reg) : offsetOf r % 4 = 0 ∧ 0 ≤ offsetOf r ∧ offsetOf r ≤ 0x1C := by
  cases r <;> decide

/-- Every register has a value for the host but CMD, at offset 0 (R23, R24). -/
theorem State.readReg_cases (s : State) (r : Reg) :
    (offsetOf r = 0 ∧ s.readReg r = none) ∨ (offsetOf r ≠ 0 ∧ ∃ v, s.readReg r = some v) := by
  cases r with
  | cmd => exact .inl ⟨rfl, rfl⟩
  | _ => exact .inr ⟨by decide, _, rfl⟩

/-- A command completes: it is ignored, faults or has its effect (R131, R180). -/
theorem exec_completes (i : Instr) (s : State) : ∃ t, exec i s = .next t := by
  rw [exec_eq, runCommand]
  split
  · exact ⟨_, rfl⟩
  · split <;> exact ⟨_, rfl⟩

/-- A command word completes, whether or not it decodes (R180). -/
theorem execute_completes (w : Word) (s : State) : ∃ t, execute w s = .next t := by
  rw [execute]
  split
  · exact ⟨_, rfl⟩
  · split
    · exact ⟨_, rfl⟩
    · next i _ => exact exec_completes i s

/-- The host writes CMD, ARG0 and ARG1, at offsets up to 0x08; the registers above them are read-only (R24, R63). -/
theorem completeWrite_writeReg_cases (r : Reg) (v : Word) (s : State) :
    (0x08 < offsetOf r ∧ completeWrite (writeReg r v s) = .refused .writeOfReadOnly) ∨
      (offsetOf r ≤ 0x08 ∧ ∃ t, completeWrite (writeReg r v s) = .next t) := by
  cases r with
  | cmd =>
    obtain ⟨t, ht⟩ := execute_completes v s
    exact .inr ⟨by decide, t.reply .done, by rw [writeReg, ht, completeWrite]⟩
  | arg0 => exact .inr ⟨by decide, _, rfl⟩
  | arg1 => exact .inr ⟨by decide, _, rfl⟩
  | _ => exact .inl ⟨by decide, rfl⟩

/-- An outcome is a refusal under a condition and a next state otherwise. -/
def RefusedExactlyWhen (P : Prop) (o : Host.Outcome State Fault Refusal) : Prop :=
  (P ∧ ∃ why, o = .refused why) ∨ (¬P ∧ ∃ t, o = .next t)

/-- Then it is refused exactly under the condition, and never a fault. -/
theorem RefusedExactlyWhen.iff_and_answers {P : Prop} {o : Host.Outcome State Fault Refusal}
    (h : RefusedExactlyWhen P o) :
    ((∃ why, o = .refused why) ↔ P) ∧ ((∃ why, o = .refused why) ∨ ∃ t, o = .next t) := by
  obtain ⟨hp, why, rfl⟩ | ⟨hp, t, rfl⟩ := h
  · exact ⟨⟨fun _ => hp, fun _ => ⟨why, rfl⟩⟩, .inl ⟨why, rfl⟩⟩
  · exact ⟨⟨fun ⟨_, hw⟩ => (nomatch hw), fun h => absurd h hp⟩, .inr ⟨t, rfl⟩⟩

/-- Which reads are refused, while the block takes accesses (R63). -/
theorem hostRead_refused {s : State} (hb : AtBoundary s) (off : Int) (width : Nat) :
    RefusedExactlyWhen (width ≠ 4 ∨ off % 4 ≠ 0 ∨ off < 0 ∨ 0x1C < off ∨ off = 0) (hostRead off width s) := by
  cases hreg : regAt off width with
  | error why =>
    have := regAt_eq_error hreg
    exact .inl ⟨by omega, why, by simp only [hostRead, accessGate_atBoundary hb, hreg]⟩
  | ok r =>
    obtain ⟨rfl, rfl⟩ := regAt_eq_ok.1 hreg
    have := offsetOf_in_window r
    rw [hostRead_reg hb]
    obtain ⟨hcmd, hv⟩ | ⟨hne, v, hv⟩ := s.readReg_cases r
    · exact .inl ⟨by omega, .readOfCmd, by rw [hv]⟩
    · exact .inr ⟨by omega, s.reply (.data v), by rw [hv]⟩

/-- Which writes are refused, while the block takes accesses (R63). -/
theorem hostWrite_refused {s : State} (hb : AtBoundary s) (off : Int) (width : Nat) (v : Word) :
    RefusedExactlyWhen (width ≠ 4 ∨ off % 4 ≠ 0 ∨ off < 0 ∨ 0x08 < off) (hostWrite off width v s) := by
  cases hreg : regAt off width with
  | error why =>
    have := regAt_eq_error hreg
    exact .inl ⟨by omega, why, by simp only [hostWrite, accessGate_atBoundary hb, hreg]⟩
  | ok r =>
    obtain ⟨rfl, rfl⟩ := regAt_eq_ok.1 hreg
    have := offsetOf_in_window r
    rw [hostWrite_reg hb]
    obtain ⟨hro, hw⟩ | ⟨hrw, t, ht⟩ := completeWrite_writeReg_cases r v s
    · exact .inl ⟨by omega, _, hw⟩
    · exact .inr ⟨by omega, t, ht⟩

/-- Settles O46: a step at a command boundary is refused exactly when the access it serves is. -/
theorem refusedAccessesAreExactly : Obligations.RefusedAccessesAreExactly := by
  intro off width v rest s hb
  have taken : AtBoundary { s with host := rest } := hb
  have ⟨idle, _⟩ := hb
  constructor
  · intro hh
    rw [step_served idle hh]
    exact (hostRead_refused taken off width).iff_and_answers
  · intro hh
    rw [step_served idle hh]
    exact (hostWrite_refused taken off width v).iff_and_answers

end Sys2Proof.Machine
end

section
/-! Proofs of spec/30_encoding.md's family: the rows of the opcode table exclude each other (R92), so decoding and
encoding undo each other (R80, R91). -/

namespace Sys2Proof

/-! ### Decoding by a row (R92) -/

/-- A row's words, as R92 writes them. -/
theorem OpcodeRow.hits_iff {r : OpcodeRow} {w : Word} : r.hits w = true ↔ w &&& r.mask = r.pattern :=
  beq_iff_eq

/-- Two rows that share a word agree on every bit that both fix. -/
theorem pattern_agree_of_hits {r₁ r₂ : OpcodeRow} {w : Word} (h₁ : r₁.hits w = true) (h₂ : r₂.hits w = true) :
    r₁.pattern &&& r₂.mask = r₂.pattern &&& r₁.mask := by
  rw [← OpcodeRow.hits_iff.1 h₁, ← OpcodeRow.hits_iff.1 h₂, BitVec.and_assoc, BitVec.and_assoc,
    BitVec.and_comm r₁.mask]

/-- Any two rows of the table disagree on a bit that both fix. -/
theorem opcodeTable_patterns_disagree :
    opcodeTable.Pairwise fun r₁ r₂ => r₁.pattern &&& r₂.mask ≠ r₂.pattern &&& r₁.mask := by
  decide

/-- No word is a word of two rows. -/
theorem opcodeTable_rows_exclusive (w : Word) :
    opcodeTable.Pairwise fun r₁ r₂ => ¬ (r₁.hits w = true ∧ r₂.hits w = true) :=
  opcodeTable_patterns_disagree.imp fun hne ⟨h₁, h₂⟩ => hne (pattern_agree_of_hits h₁ h₂)

/-- The search of the table finds the row that a word matches, wherever it stands. -/
theorem find?_row_of_hits {r : OpcodeRow} {w : Word} (hr : r ∈ opcodeTable) (hw : r.hits w = true) :
    opcodeTable.find? (·.hits w) = some r := by
  obtain ⟨before, after, htable⟩ := List.append_of_mem hr
  have hexcl := opcodeTable_rows_exclusive w
  rw [htable, List.pairwise_append] at hexcl
  obtain ⟨-, -, hcross⟩ := hexcl
  refine List.find?_eq_some_iff_append.2 ⟨hw, before, after, htable, fun r' hr' => ?_⟩
  have hnot : ¬ r'.hits w = true := fun hw' => hcross r' hr' r List.mem_cons_self ⟨hw', hw⟩
  simp [hnot]

/-- A word of a row decodes to the row's command with its fields. -/
theorem decode_of_hits {r : OpcodeRow} {w : Word} (hr : r ∈ opcodeTable) (hw : r.hits w = true) :
    decode w = .command (r.command w) := by
  rw [decode, find?_row_of_hits hr hw]

/-- A word decodes to a command only by a row it matches. -/
theorem exists_row_of_decode {w : Word} {i : Instr} (h : decode w = .command i) :
    ∃ r ∈ opcodeTable, r.hits w = true ∧ r.command w = i := by
  unfold decode at h
  split at h
  · next r hfind =>
    have hw : r.hits w = true := by simpa using List.find?_some hfind
    exact ⟨r, List.mem_of_find?_eq_some hfind, hw, Decoded.command.inj h⟩
  · cases h

/-- A word is illegal exactly when it matches no row. -/
theorem decode_illegal_iff {w : Word} :
    (∃ why, decode w = .illegal why) ↔ ∀ r ∈ opcodeTable, w &&& r.mask ≠ r.pattern := by
  simp only [ne_eq, ← OpcodeRow.hits_iff]
  constructor
  · rintro ⟨why, h⟩ r hr hw
    rw [decode_of_hits hr hw] at h
    cases h
  · intro hnone
    exact ⟨illegalReason w, by rw [decode, List.find?_eq_none.2 hnone]⟩

/-- Settles O3: the table's rows exclude each other, so the decoder's search stops at the row a word matches. -/
theorem decodeTakesTheUniqueRow : Obligations.DecodeTakesTheUniqueRow :=
  ⟨opcodeTable_rows_exclusive, fun _ _ hr hw => decode_of_hits hr (OpcodeRow.hits_iff.2 hw),
    fun _ => decode_illegal_iff.2⟩

/-! ### Decoding an encoded command -/

/-- The row of the opcode table that encodes a command (R82 to R90). -/
def Instr.row : Instr → OpcodeRow
  | .init _ _ => opcodeTable[0]
  | .setbaud => opcodeTable[1]
  | .setmode _ _ => opcodeTable[2]
  | .wrbyte _ => opcodeTable[3]
  | .rdbyte => opcodeTable[4]
  | .csassert => opcodeTable[5]
  | .csdeassert => opcodeTable[6]
  | .transactW _ _ _ => opcodeTable[7]
  | .transactR _ _ => opcodeTable[8]
  | .burst1 _ => opcodeTable[9]
  | .burst2 _ _ => opcodeTable[10]
  | .burst3 _ _ _ => opcodeTable[11]
  | .delay _ => opcodeTable[12]

theorem Instr.row_mem (i : Instr) : i.row ∈ opcodeTable := by
  cases i <;> exact List.getElem_mem _

theorem Instr.row_mnemonic (i : Instr) : i.row.mnemonic = i.mnemonic := by
  cases i <;> rfl

/-- A mnemonic names one row. -/
theorem opcodeTable_mnemonics_nodup : (opcodeTable.map OpcodeRow.mnemonic).Nodup := by
  decide

/-- The command's word is a word of a row that bears its mnemonic, command by command. -/
theorem rowOfTable : ∀ i : Instr, Laws.RowOfTable.Statement i
  | .init hwcs rxen => Laws.RowOfTable.init hwcs rxen
  | .setbaud => Laws.RowOfTable.setbaud
  | .setmode cpol cpha => Laws.RowOfTable.setmode cpol cpha
  | .wrbyte data => Laws.RowOfTable.wrbyte data
  | .rdbyte => Laws.RowOfTable.rdbyte
  | .csassert => Laws.RowOfTable.csassert
  | .csdeassert => Laws.RowOfTable.csdeassert
  | .transactW opc reg data => Laws.RowOfTable.transactW opc reg data
  | .transactR opc reg => Laws.RowOfTable.transactR opc reg
  | .burst1 b0 => Laws.RowOfTable.burst1 b0
  | .burst2 b0 b1 => Laws.RowOfTable.burst2 b0 b1
  | .burst3 b0 b1 b2 => Laws.RowOfTable.burst3 b0 b1 b2
  | .delay us => Laws.RowOfTable.delay us

/-- A command's word is a word of its row. -/
theorem Instr.row_hits_encode (i : Instr) : i.row.hits (encode i) = true := by
  obtain ⟨r, hr, hname, hw⟩ := rowOfTable i
  have hrow : r = i.row :=
    List.inj_on_of_nodup_map opcodeTable_mnemonics_nodup hr i.row_mem (hname.trans i.row_mnemonic.symm)
  rwa [← hrow]

/-- DELAY's field holds the wait. -/
theorem extractLsb'_encode_delay (us : BitVec 24) : (encode (.delay us)).extractLsb' 0 24 = us := by
  apply BitVec.eq_of_getLsbD_eq
  intro k hk
  rw [BitVec.getLsbD_extractLsb', encode, BitVec.getLsbD_or, BitVec.getLsbD_setWidth]
  interval_cases k <;> simp

/-- A command's row reads its operands back from its word. -/
theorem Instr.row_command_encode (i : Instr) : i.row.command (encode i) = i := by
  cases i with
  | init hwcs rxen => cases hwcs <;> cases rxen <;> rfl
  | setmode cpol cpha => cases cpol <;> cases cpha <;> rfl
  | setbaud | rdbyte | csassert | csdeassert => rfl
  | wrbyte data =>
    -- Not by `simp`, which joins the three fixed bytes and so hides the form of `byteAt_bytes_0`.
    change Instr.wrbyte (byteAt (encode (.wrbyte data)) 0) = .wrbyte data
    rw [encode_wrbyte, byteAt_bytes_0]
  | transactW opc reg data => simp [Instr.row, opcodeTable, encode_transactW]
  | transactR opc reg => simp [Instr.row, opcodeTable, encode_transactR]
  | burst1 b0 => simp [Instr.row, opcodeTable, encode_burst1]
  | burst2 b0 b1 => simp [Instr.row, opcodeTable, encode_burst2]
  | burst3 b0 b1 b2 => simp [Instr.row, opcodeTable, encode_burst3]
  | delay us => simp [Instr.row, opcodeTable, extractLsb'_encode_delay]

/-- Settles O1: a command's word is a word of its row, and the row reads the operands back. -/
theorem decodeOfEncodeIsTheCommand : Obligations.DecodeOfEncodeIsTheCommand := fun i => by
  rw [decode_of_hits i.row_mem i.row_hits_encode, i.row_command_encode]

/-- Words that are the encodings of commands decode to those commands. -/
theorem map_encode_and_map_decode {is : List Instr} {ws : List Word} (h : is.map encode = ws) :
    is.map encode = ws ∧ ws.map decode = is.map Decoded.command := by
  refine ⟨h, ?_⟩
  rw [← h, List.map_map]
  exact List.map_congr_left fun i _ => decodeOfEncodeIsTheCommand i

/-- Settles O5: the encodings are computed, and the words decode because they are encodings. -/
theorem encodingExamples : Obligations.EncodingExamples := map_encode_and_map_decode rfl

/-! ### Encoding a decoded word -/

/-- The mask of the field of `n` bits from bit `lo` up. -/
def fieldMask (lo n : Nat) : Word := (BitVec.allOnes n).setWidth 32 <<< lo

/-- A field read from a word and put back in its place is the word masked to the field. -/
theorem shiftLeft_extractLsb' (w : Word) (lo n : Nat) :
    (w.extractLsb' lo n).setWidth 32 <<< lo = w &&& fieldMask lo n := by
  apply BitVec.eq_of_getLsbD_eq
  intro k hk
  simp only [fieldMask, BitVec.getLsbD_and, BitVec.getLsbD_shiftLeft, BitVec.getLsbD_setWidth,
    BitVec.getLsbD_extractLsb', BitVec.getLsbD_allOnes]
  by_cases hlo : k < lo
  · simp [hlo]
  · simp [hlo, hk, show lo + (k - lo) = k by omega, show k - lo < 32 by omega, Bool.and_comm]

theorem placeByte_byteAt (w : Word) (lo : Nat) : placeByte (byteAt w lo) lo = w &&& (0xFF#32 <<< lo) :=
  shiftLeft_extractLsb' w lo 8

theorem zeroExtend_extractLsb'_24 (w : Word) : (w.extractLsb' 0 24).zeroExtend 32 = w &&& 0xFFFFFF#32 := by
  simpa [fieldMask] using shiftLeft_extractLsb' w 0 24

/-- A flag read from a word and put back in its place is the word masked to that bit. -/
theorem placeFlag_flagAt (w : Word) (k : Nat) : placeFlag (flagAt w k) k = w &&& (1#32 <<< k) := by
  rw [← BitVec.twoPow_eq, BitVec.and_twoPow, placeFlag, flagAt, BitVec.twoPow_eq]

/-- Encoding what a row reads from any word gives the row's pattern on the bits that the mask fixes and the word on the
others: the fields of a row are the bits its mask leaves free. -/
theorem encode_command {r : OpcodeRow} (hr : r ∈ opcodeTable) (w : Word) :
    encode (r.command w) = r.pattern ||| (w &&& ~~~ r.mask) := by
  simp only [opcodeTable, List.mem_cons, List.not_mem_nil, or_false] at hr
  rcases hr with rfl | rfl | rfl | rfl | rfl | rfl | rfl | rfl | rfl | rfl | rfl | rfl | rfl <;>
    simp [encode, placeByte_byteAt, placeFlag_flagAt, BitVec.or_assoc, ← BitVec.and_or_distrib_left,
      zeroExtend_extractLsb'_24]

/-- A word of a row is the word of the command read from it. -/
theorem encode_command_of_hits {r : OpcodeRow} {w : Word} (hr : r ∈ opcodeTable) (hw : r.hits w = true) :
    encode (r.command w) = w := by
  rw [encode_command hr, ← OpcodeRow.hits_iff.1 hw, ← BitVec.and_or_distrib_left, BitVec.or_not_self,
    BitVec.and_allOnes]

/-- Settles O2: the word matches the row it decodes by. -/
theorem encodeOfDecodeIsTheWord : Obligations.EncodeOfDecodeIsTheWord := fun _ _ h => by
  obtain ⟨r, hr, hw, rfl⟩ := exists_row_of_decode h
  exact encode_command_of_hits hr hw

end Sys2Proof
end

section
/-! Proofs of spec/30_encoding.md's family: the table's masks, field by field, so that the words of no row are the
illegal words of R93, and what executing one does. -/

namespace Sys2Proof

open Machine

/-! ### Masks as fields -/

/-- The mask of a list of fields, each its lowest bit and its width. -/
def fieldsMask : List (Nat × Nat) → Word
  | [] => 0#32
  | (lo, n) :: fs => fieldMask lo n ||| fieldsMask fs

/-- Two words have the same value in each field of the list. -/
def FieldsAgree (w p : Word) (fs : List (Nat × Nat)) : Prop :=
  fs.Forall fun f => w.extractLsb' f.1 f.2 = p.extractLsb' f.1 f.2

/-- Masking a word to a field keeps the field. -/
theorem extractLsb'_and_fieldMask (w : Word) (lo n : Nat) :
    (w &&& fieldMask lo n).extractLsb' lo n = w.extractLsb' lo n := by
  apply BitVec.eq_of_getLsbD_eq
  intro k hk
  by_cases hlo : lo + k < 32
  · simp [fieldMask, hk, hlo]
  · simp [BitVec.getLsbD_of_ge, Nat.le_of_not_lt hlo]

/-- Two words agree under the mask of a field exactly when they have the same value in it. -/
theorem and_fieldMask_eq_iff {w p : Word} {lo n : Nat} :
    w &&& fieldMask lo n = p &&& fieldMask lo n ↔ w.extractLsb' lo n = p.extractLsb' lo n := by
  constructor
  · intro h
    rw [← extractLsb'_and_fieldMask w, h, extractLsb'_and_fieldMask]
  · intro h
    rw [← shiftLeft_extractLsb', h, shiftLeft_extractLsb']

/-- A joint mask followed by one of its parts is the part. -/
theorem and_or_and_self (w m₁ m₂ : Word) : w &&& (m₁ ||| m₂) &&& m₁ = w &&& m₁ := by
  apply BitVec.eq_of_getLsbD_eq
  intro k _
  simp only [BitVec.getLsbD_and, BitVec.getLsbD_or]
  cases m₁.getLsbD k <;> simp

/-- Two words agree under a joint mask exactly when they agree under both of its parts. -/
theorem and_or_mask_eq_iff {w p m₁ m₂ : Word} :
    w &&& (m₁ ||| m₂) = p &&& (m₁ ||| m₂) ↔ w &&& m₁ = p &&& m₁ ∧ w &&& m₂ = p &&& m₂ := by
  constructor
  · intro h
    constructor
    · rw [← and_or_and_self w m₁ m₂, h, and_or_and_self]
    · rw [BitVec.or_comm] at h
      rw [← and_or_and_self w m₂ m₁, h, and_or_and_self]
  · rintro ⟨h₁, h₂⟩
    rw [BitVec.and_or_distrib_left, BitVec.and_or_distrib_left, h₁, h₂]

/-- Two words agree under the mask of some fields exactly when they agree field by field. -/
theorem and_fieldsMask_eq_iff {w p : Word} (fs : List (Nat × Nat)) :
    w &&& fieldsMask fs = p &&& fieldsMask fs ↔ FieldsAgree w p fs := by
  induction fs with
  | nil => simp [fieldsMask, FieldsAgree]
  | cons f fs ih =>
    rw [fieldsMask, and_or_mask_eq_iff, and_fieldMask_eq_iff, ih, FieldsAgree, FieldsAgree, List.forall_cons]

/-- A word matches a row whose mask covers OP and the given fields exactly when it has the pattern's OP and its values
in those fields. -/
theorem matches_iff_fieldsAgree {w m p : Word} (fs : List (Nat × Nat))
    (hm : m = fieldMask 28 4 ||| fieldsMask fs := by decide) (hp : p &&& m = p := by decide) :
    w &&& m = p ↔ opOf w = opOf p ∧ FieldsAgree w p fs := by
  calc w &&& m = p
    _ ↔ w &&& (fieldMask 28 4 ||| fieldsMask fs) = p &&& (fieldMask 28 4 ||| fieldsMask fs) := by rw [← hm, hp]
    _ ↔ opOf w = opOf p ∧ FieldsAgree w p fs := by
      rw [and_or_mask_eq_iff, and_fieldMask_eq_iff, and_fieldsMask_eq_iff, BitVec.toNat_inj]

/-! ### Legal and illegal words (R93) -/

/-- The words of the table's rows by their fields (R82 to R90), in the order of the table. -/
def LegalFields (w : Word) : Prop :=
  (opOf w = 1 ∧ w.extractLsb' 2 26 = 0#26) ∨
  (opOf w = 2 ∧ w.extractLsb' 0 28 = 0#28) ∨
  (opOf w = 3 ∧ w.extractLsb' 2 26 = 0#26) ∨
  (opOf w = 4 ∧ w.extractLsb' 8 20 = 0#20) ∨
  (opOf w = 5 ∧ w.extractLsb' 0 28 = 0#28) ∨
  (opOf w = 6 ∧ w.extractLsb' 0 28 = 0#28) ∨
  (opOf w = 7 ∧ w.extractLsb' 0 28 = 0#28) ∨
  (opOf w = 8 ∧ w.extractLsb' 25 3 = 0#3 ∧ w.extractLsb' 24 1 = 1#1) ∨
  (opOf w = 8 ∧ w.extractLsb' 25 3 = 0#3 ∧ w.extractLsb' 24 1 = 0#1 ∧ w.extractLsb' 0 8 = 0#8) ∨
  (opOf w = 9 ∧ w.extractLsb' 24 2 = 0#2 ∧ w.extractLsb' 26 2 = 1#2 ∧ w.extractLsb' 0 16 = 0#16) ∨
  (opOf w = 9 ∧ w.extractLsb' 24 2 = 0#2 ∧ w.extractLsb' 26 2 = 2#2 ∧ w.extractLsb' 0 8 = 0#8) ∨
  (opOf w = 9 ∧ w.extractLsb' 24 2 = 0#2 ∧ w.extractLsb' 26 2 = 3#2) ∨
  (opOf w = 10 ∧ w.extractLsb' 24 4 = 0#4)

/-- A word matches a row of the table exactly when its fields are legal: each row's mask covers OP and the fields listed
here. -/
theorem exists_row_iff_legalFields (w : Word) : (∃ r ∈ opcodeTable, w &&& r.mask = r.pattern) ↔ LegalFields w := by
  simp only [opcodeTable, List.exists_mem_cons_iff, List.not_mem_nil, false_and, exists_false, or_false]
  exact or_congr (matches_iff_fieldsAgree [(2, 26)]) <|
    or_congr (matches_iff_fieldsAgree [(0, 28)]) <|
    or_congr (matches_iff_fieldsAgree [(2, 26)]) <|
    or_congr (matches_iff_fieldsAgree [(8, 20)]) <|
    or_congr (matches_iff_fieldsAgree [(0, 28)]) <|
    or_congr (matches_iff_fieldsAgree [(0, 28)]) <|
    or_congr (matches_iff_fieldsAgree [(0, 28)]) <|
    or_congr (matches_iff_fieldsAgree [(25, 3), (24, 1)]) <|
    or_congr (matches_iff_fieldsAgree [(25, 3), (24, 1), (0, 8)]) <|
    or_congr (matches_iff_fieldsAgree [(24, 2), (26, 2), (0, 16)]) <|
    or_congr (matches_iff_fieldsAgree [(24, 2), (26, 2), (0, 8)]) <|
    or_congr (matches_iff_fieldsAgree [(24, 2), (26, 2)]) (matches_iff_fieldsAgree [(24, 4)])

theorem direction_cases (d : BitVec 1) : d = 0#1 ∨ d = 1#1 := by
  revert d
  decide

theorem burstCount_cases (n : BitVec 2) : n = 0#2 ∨ n = 1#2 ∨ n = 2#2 ∨ n = 3#2 := by
  revert n
  decide

/-- The fields of a word are legal exactly when R93 does not list them: OP by OP, with the direction of a TRANSACT word
and the count of a BURST word. -/
theorem illegalFields_iff_not_legalFields (w : Word) : IllegalFields w ↔ ¬ LegalFields w := by
  have hop : opOf w < 16 := (w.extractLsb' 28 4).isLt
  unfold IllegalFields LegalFields
  generalize opOf w = op at *
  interval_cases op <;> simp
  · obtain hd | hd := direction_cases (w.extractLsb' 24 1) <;> simp [hd, imp_iff_not_or]
  · obtain hn | hn | hn | hn := burstCount_cases (w.extractLsb' 26 2) <;> simp [hn, imp_iff_not_or]

/-- The words that do not decode are those R93 lists. -/
theorem decode_illegal_iff_illegalFields (w : Word) : (∃ why, decode w = .illegal why) ↔ IllegalFields w := by
  rw [illegalFields_iff_not_legalFields, ← exists_row_iff_legalFields, decode_illegal_iff]
  simp

/-- A word that does not decode raises ILLEGAL with itself in FCMD (R180, R182). -/
theorem execute_illegal {w : Word} {s : State} {why : IllegalWord} (hfault : s.status.fault = false)
    (h : decode w = .illegal why) : execute w s = .next (faulted s 1#4 w) := by
  simp only [execute, hfault, h]
  rfl

/-- Settles O4: the words that match no row are those of R93, and a word that does not decode raises ILLEGAL. -/
theorem illegalWordsFaultIllegal : Obligations.IllegalWordsFaultIllegal := by
  refine ⟨decode_illegal_iff_illegalFields, fun w _ hill hfault => ?_⟩
  obtain ⟨_, h⟩ := (decode_illegal_iff_illegalFields w).2 hill
  exact execute_illegal hfault h

end Sys2Proof
end

section
/-! Proofs of spec/30_encoding.md's family: an assembler line is a command exactly when every operand is in its range
(R96). -/

namespace Sys2Proof

open Machine

/-! ### Operands in range are field values -/

theorem exists_toNat_of_isFlag {n : Nat} (h : isFlag n = true) : ∃ b : Bool, b.toNat = n := by
  have hn : n < 2 := of_decide_eq_true h
  obtain rfl | rfl : n = 0 ∨ n = 1 := by omega
  · exact ⟨false, rfl⟩
  · exact ⟨true, rfl⟩

theorem exists_toNat_of_isU8 {n : Nat} (h : isU8 n = true) : ∃ b : Byte, b.toNat = n :=
  ⟨BitVec.ofNat 8 n, Nat.mod_eq_of_lt (of_decide_eq_true h)⟩

theorem exists_toNat_of_isDelay {n : Nat} (h : isDelay n = true) : ∃ us : BitVec 24, us.toNat = n :=
  ⟨BitVec.ofNat 24 n, Nat.mod_eq_of_lt (of_decide_eq_true h)⟩

@[simp] theorem isFlag_toNat (b : Bool) : isFlag b.toNat = true := decide_eq_true b.toNat_lt

@[simp] theorem isU8_toNat (b : Byte) : isU8 b.toNat = true := decide_eq_true b.isLt

@[simp] theorem isDelay_toNat (us : BitVec 24) : isDelay us.toNat = true := decide_eq_true us.isLt

/-! ### Lines of commands -/

/-- Every operand of a command's line is in its range. -/
theorem wellFormed_lineOf (i : Instr) : (lineOf i).wellFormed = true := by
  cases i <;> simp [lineOf, AsmLine.wellFormed, isBurstCount]

/-- A command's line assembles to the command. -/
theorem assemble_lineOf (i : Instr) : (lineOf i).assemble = some i := by
  unfold AsmLine.assemble
  rw [if_pos (wellFormed_lineOf i)]
  cases i <;> simp [lineOf]

/-- A line of bytes with a BURST's count, every byte in range, is the line of that BURST. -/
theorem exists_lineOf_burst {bytes : List Nat} (hcount : isBurstCount bytes.length = true)
    (hall : bytes.all isU8 = true) : ∃ i, lineOf i = .burst bytes := by
  have hlen : 1 ≤ bytes.length ∧ bytes.length ≤ 3 := of_decide_eq_true hcount
  match bytes, hall, hlen with
  | [x], hall, _ =>
    obtain ⟨b0, rfl⟩ := exists_toNat_of_isU8 (List.all_eq_true.1 hall x (by simp))
    exact ⟨.burst1 b0, rfl⟩
  | [x, y], hall, _ =>
    obtain ⟨b0, rfl⟩ := exists_toNat_of_isU8 (List.all_eq_true.1 hall x (by simp))
    obtain ⟨b1, rfl⟩ := exists_toNat_of_isU8 (List.all_eq_true.1 hall y (by simp))
    exact ⟨.burst2 b0 b1, rfl⟩
  | [x, y, z], hall, _ =>
    obtain ⟨b0, rfl⟩ := exists_toNat_of_isU8 (List.all_eq_true.1 hall x (by simp))
    obtain ⟨b1, rfl⟩ := exists_toNat_of_isU8 (List.all_eq_true.1 hall y (by simp))
    obtain ⟨b2, rfl⟩ := exists_toNat_of_isU8 (List.all_eq_true.1 hall z (by simp))
    exact ⟨.burst3 b0 b1 b2, rfl⟩

/-- A line with every operand in its range is a command's. -/
theorem exists_lineOf_of_wellFormed {l : AsmLine} (h : l.wellFormed = true) : ∃ i, lineOf i = l := by
  cases l with
  | init hwcs rxen =>
    obtain ⟨hh, hr⟩ := Bool.and_eq_true_iff.1 h
    obtain ⟨hwcs, rfl⟩ := exists_toNat_of_isFlag hh
    obtain ⟨rxen, rfl⟩ := exists_toNat_of_isFlag hr
    exact ⟨.init hwcs rxen, rfl⟩
  | setbaud => exact ⟨.setbaud, rfl⟩
  | setmode cpol cpha =>
    obtain ⟨hl, ha⟩ := Bool.and_eq_true_iff.1 h
    obtain ⟨cpol, rfl⟩ := exists_toNat_of_isFlag hl
    obtain ⟨cpha, rfl⟩ := exists_toNat_of_isFlag ha
    exact ⟨.setmode cpol cpha, rfl⟩
  | wrbyte data =>
    obtain ⟨data, rfl⟩ := exists_toNat_of_isU8 h
    exact ⟨.wrbyte data, rfl⟩
  | rdbyte => exact ⟨.rdbyte, rfl⟩
  | csassert => exact ⟨.csassert, rfl⟩
  | csdeassert => exact ⟨.csdeassert, rfl⟩
  | transactW opc reg data =>
    obtain ⟨hor, hd⟩ := Bool.and_eq_true_iff.1 h
    obtain ⟨ho, hr⟩ := Bool.and_eq_true_iff.1 hor
    obtain ⟨opc, rfl⟩ := exists_toNat_of_isU8 ho
    obtain ⟨reg, rfl⟩ := exists_toNat_of_isU8 hr
    obtain ⟨data, rfl⟩ := exists_toNat_of_isU8 hd
    exact ⟨.transactW opc reg data, rfl⟩
  | transactR opc reg =>
    obtain ⟨ho, hr⟩ := Bool.and_eq_true_iff.1 h
    obtain ⟨opc, rfl⟩ := exists_toNat_of_isU8 ho
    obtain ⟨reg, rfl⟩ := exists_toNat_of_isU8 hr
    exact ⟨.transactR opc reg, rfl⟩
  | burst bytes =>
    obtain ⟨hcount, hall⟩ := Bool.and_eq_true_iff.1 h
    exact exists_lineOf_burst hcount hall
  | delay us =>
    obtain ⟨us, rfl⟩ := exists_toNat_of_isDelay h
    exact ⟨.delay us, rfl⟩

/-! ### What assembles -/

/-- A line is refused exactly when an operand is out of its range. -/
theorem assemble_eq_none_iff {l : AsmLine} : l.assemble = none ↔ ¬ l.wellFormed = true := by
  constructor
  · intro hnone hwf
    obtain ⟨i, rfl⟩ := exists_lineOf_of_wellFormed hwf
    rw [assemble_lineOf] at hnone
    cases hnone
  · intro hwf
    unfold AsmLine.assemble
    rw [if_neg hwf]

/-- A line assembles to a command exactly when it is the command's line. -/
theorem assemble_eq_some_iff {l : AsmLine} {i : Instr} : l.assemble = some i ↔ l = lineOf i := by
  constructor
  · intro h
    have hwf : l.wellFormed = true := by
      by_contra hill
      rw [assemble_eq_none_iff.2 hill] at h
      cases h
    obtain ⟨j, rfl⟩ := exists_lineOf_of_wellFormed hwf
    rw [assemble_lineOf] at h
    rw [Option.some.inj h]
  · rintro rfl
    exact assemble_lineOf i

/-- Settles O6: a line is refused exactly when it is not well formed, and each range of R96 is what well formed says of
that line. -/
theorem assemblerRefusesExactlyIllFormedLines : Obligations.AssemblerRefusesExactlyIllFormedLines := by
  refine ⟨fun _ _ => assemble_eq_some_iff, fun _ _ => ?_, rfl, fun _ _ => ?_, fun _ => ?_, rfl, rfl, rfl,
    fun _ _ _ => ?_, fun _ _ => ?_, fun _ => ?_, fun _ => ?_⟩ <;>
    simp [assemble_eq_none_iff, AsmLine.wellFormed, isFlag, isU8, isDelay, isBurstCount, and_assoc]

end Sys2Proof
end

section
/-! Proofs of spec/40_spi_config.md's family: what INIT, SETBAUD and SETMODE check and do (R100 to R107), and the
divisor's rounding law (R103). -/

namespace Sys2Proof.Machine

/-! ### Checks and faults -/

/-- The checks are made in order: the first that fails is reported (R183). -/
theorem firstFault_cons (c : FaultCode) (checks : List FaultCode) (s : State) :
    firstFault (c :: checks) s = if faultHolds s c then some c else firstFault checks s := by
  rw [firstFault, List.find?_cons]
  cases faultHolds s c <;> rfl

theorem firstFault_nil (s : State) : firstFault [] s = none := rfl

/-- A command whose check fails faults with that check's code, under its own word (R181, R189). -/
theorem exec_faulted {i : Instr} {s : State} {code : FaultCode} {w : Word} (hw : encode i = w)
    (hf : s.status.fault = false) (hc : firstFault (checksOf i) s = some code) :
    exec i s = .next (faulted s (codeOf code) w) :=
  hw ▸ exec_faults hf hc

/-- The word of a command decodes to it (R80). -/
theorem decode_of_encode_eq {i : Instr} {w : Word} (hw : encode i = w) : decode w = .command i :=
  hw ▸ decodeOfEncodeIsTheCommand i

/-! ### INIT -/

/-- INIT's word by its fields (R82). -/
theorem encode_init (hwcs rxen : Bool) :
    encode (.init hwcs rxen) = 0x4000000#30 ++ BitVec.ofBool rxen ++ BitVec.ofBool hwcs := by
  cases hwcs <;> cases rxen <;> rfl

/-- INIT's one check (R100). -/
theorem firstFault_init (hwcs rxen : Bool) (s : State) :
    firstFault (checksOf (.init hwcs rxen)) s = if s.status.csa then some .csOpen else none :=
  firstFault_cons .csOpen [] s

/-- An INIT with no open transaction runs (R100). -/
theorem exec_init_closed (hwcs rxen : Bool) {s : State} (hf : s.status.fault = false) (hclosed : s.status.csa = false) :
    exec (.init hwcs rxen) s = .next (s.initialize hwcs rxen) :=
  exec_effect hf (by simp [firstFault_init, hclosed])

/-- Settles O7: INIT runs only with the software transaction closed and moves no select, so the line is high. -/
theorem initConfiguresOrFaultsOpen : Obligations.InitConfiguresOrFaultsOpen := by
  intro hwcs rxen s hf
  have word := encode_init hwcs rxen
  refine ⟨decode_of_encode_eq word, fun hopen => ?_, fun hclosed => ?_⟩
  · exact exec_faulted (code := .csOpen) word hf (by simp [firstFault_init, hopen])
  · refine ⟨_, exec_init_closed hwcs rxen hf hclosed, fun idle => ?_, rfl⟩
    rw [csN_idle (s := s.initialize hwcs rxen) idle]
    simp [hclosed]

/-- Settles O8: what INIT writes does not depend on what it overwrites. -/
theorem initIsIdempotent : Obligations.InitIsIdempotent := fun hwcs rxen s hf hclosed =>
  ⟨s.initialize hwcs rxen, exec_init_closed hwcs rxen hf hclosed,
    exec_init_closed hwcs rxen (s := s.initialize hwcs rxen) hf hclosed⟩

/-! ### The divisor -/

/-- The divisor is one division of naturals (R103). -/
theorem divisor_eq_div (f : Word) {b : Word} (hb : 0 < b.toNat) :
    divisor f b = (2 * f.toNat + b.toNat) / (2 * b.toNat) := by
  calc divisor f b = (2 * f.toNat / b.toNat + 1) / 2 := by rw [divisor, Nat.shiftRight_eq_div_pow, pow_one]
    _ = (2 * f.toNat + b.toNat) / b.toNat / 2 := by rw [Nat.add_div_right _ hb]
    _ = (2 * f.toNat + b.toNat) / (2 * b.toNat) := by rw [Nat.div_div_eq_div_mul, Nat.mul_comm b.toNat 2]

/-- Settles O10: the law in the naturals gives the one over the rationals and the exact half. -/
theorem divisorRoundsHalfUp : Obligations.DivisorRoundsHalfUp := by
  intro f b hb
  have pos : 0 < b.toNat := Nat.pos_of_ne_zero fun h => hb (BitVec.toNat_inj.1 h)
  rw [divisor_eq_div f pos]
  refine ⟨rfl, ?_, fun k half => ?_⟩
  · have halves : (f.toNat : Rat) / b.toNat + 1 / 2 =
        ((2 * f.toNat + b.toNat : Nat) : Rat) / ((2 * b.toNat : Nat) : Rat) := by
      have : (b.toNat : Rat) ≠ 0 := by exact_mod_cast pos.ne'
      push_cast
      field_simp
    rw [halves, Rat.floor_natCast_div_natCast, Int.natCast_div]
  · rw [half, show (2 * k + 1) * b.toNat + b.toNat = (k + 1) * (2 * b.toNat) by ring]
    exact Nat.mul_div_cancel _ (by omega)

/-! ### SETBAUD -/

/-- SETBAUD's checks in their order (R102). -/
theorem firstFault_setbaud (s : State) : firstFault (checksOf .setbaud) s =
    if !s.config.cfg then some .notInit
    else if s.status.csa then some .csOpen
    else if s.arg1 = 0#32 then some .baudZero
    else if computedDivisor s = 0 ∨ s.params.divMax < computedDivisor s then some .divRange
    else none := by
  simp [checksOf, firstFault_cons, firstFault_nil, faultHolds, divisor_eq]

/-- A SETBAUD with a legal divisor runs (R102, R104). -/
theorem exec_setbaud_legal {s : State} (hf : s.status.fault = false) (hcfg : s.config.cfg = true)
    (hclosed : s.status.csa = false) (hbaud : s.arg1 ≠ 0#32) (hlow : 1 ≤ computedDivisor s)
    (hhigh : computedDivisor s ≤ s.params.divMax) :
    exec .setbaud s = .next (s.installDivisor (computedDivisor s)) := by
  have legal : ¬ (computedDivisor s = 0 ∨ s.params.divMax < computedDivisor s) := by omega
  have pass : firstFault (checksOf .setbaud) s = none := by simp [firstFault_setbaud, hcfg, hclosed, hbaud, legal]
  rw [exec_effect hf pass, effectOf, divisor_eq]

/-- Settles O9: each clause picks one branch of the checks in their order. DIV_MAX fits DIV, so no bit of a legal
divisor is lost. -/
theorem setbaudInstallsTheRoundedDivisor : Obligations.SetbaudInstallsTheRoundedDivisor := by
  intro s hf
  have faults {code : FaultCode} (h : firstFault (checksOf .setbaud) s = some code) :
      exec .setbaud s = .next (faulted s (codeOf code) 0x20000000#32) := exec_faulted rfl hf h
  refine ⟨decode_of_encode_eq rfl, fun hcfg => faults (code := .notInit) ?_,
    fun hcfg hopen => faults (code := .csOpen) ?_, fun hcfg hclosed hbaud => faults (code := .baudZero) ?_,
    fun hcfg hclosed hbaud hrange => faults (code := .divRange) ?_, fun hcfg hclosed hbaud hlow hhigh => ?_⟩
  · simp [firstFault_setbaud, hcfg]
  · simp [firstFault_setbaud, hcfg, hopen]
  · simp [firstFault_setbaud, hcfg, hclosed, hbaud]
  · simp [firstFault_setbaud, hcfg, hclosed, hbaud, hrange]
  · refine ⟨_, exec_setbaud_legal hf hcfg hclosed hbaud hlow hhigh, rfl, ?_⟩
    rw [State.installDivisor_div, BitVec.toNat_ofNat, Nat.mod_eq_of_lt (hhigh.trans_lt (Params.divMax_lt s.params))]

/-- With ARG1 = 1 the divisor is ARG0 itself, even or odd (R103). -/
theorem computedDivisor_of_arg1_one {s : State} (h : s.arg1 = 1#32) : computedDivisor s = s.arg0.toNat := by
  rw [computedDivisor, h, BitVec.toNat_one (by decide), Nat.div_one]
  omega

/-- Settles O11: a SETBAUD that left no fault passed its range check. -/
theorem legalDivisorsAreOneToMax : Obligations.LegalDivisorsAreOneToMax := by
  refine ⟨fun s hf hcfg hclosed hone hlow hhigh => ?_, fun s t hf hexec ht => ?_, rfl⟩
  · have same := computedDivisor_of_arg1_one hone
    refine ⟨_, exec_setbaud_legal hf hcfg hclosed (by simp [hone]) (same ▸ hlow) (same ▸ hhigh), hf, ?_⟩
    rw [State.installDivisor_div, same, BitVec.ofNat_toNat, BitVec.setWidth_eq]
  · obtain ⟨hpass, rfl⟩ := exec_passed hf hexec ht
    exact installDivisor_div_legal hpass

/-! ### SETMODE -/

/-- SETMODE's word by its fields (R84). -/
theorem encode_setmode (cpol cpha : Bool) :
    encode (.setmode cpol cpha) = 0xC000000#30 ++ BitVec.ofBool cpol ++ BitVec.ofBool cpha := by
  cases cpol <;> cases cpha <;> rfl

/-- SETMODE's checks in their order (R106). -/
theorem firstFault_setmode (cpol cpha : Bool) (s : State) : firstFault (checksOf (.setmode cpol cpha)) s =
    if !s.config.cfg then some .notInit else if s.status.csa then some .csOpen else none := by
  simp only [checksOf, firstFault_cons, firstFault_nil]
  rfl

/-- A SETMODE in an initialized block with no open transaction runs (R106). -/
theorem exec_setmode_closed (cpol cpha : Bool) {s : State} (hf : s.status.fault = false) (hcfg : s.config.cfg = true)
    (hclosed : s.status.csa = false) : exec (.setmode cpol cpha) s = .next (s.installMode cpol cpha) :=
  exec_effect hf (by simp [firstFault_setmode, hcfg, hclosed])

/-- Settles O12: SETMODE ends enabled, so at a boundary the clock line is driven at its idle level. -/
theorem setmodeInstallsTheMode : Obligations.SetmodeInstallsTheMode := by
  intro cpol cpha s hf w
  have word : encode (.setmode cpol cpha) = w := encode_setmode cpol cpha
  refine ⟨decode_of_encode_eq word, fun hcfg => ?_, fun hcfg hopen => ?_, fun hcfg hclosed => ?_⟩
  · exact exec_faulted (code := .notInit) word hf (by simp [firstFault_setmode, hcfg])
  · exact exec_faulted (code := .csOpen) word hf (by simp [firstFault_setmode, hcfg, hopen])
  · refine ⟨_, exec_setmode_closed cpol cpha hf hcfg hclosed, fun idle => ?_, rfl⟩
    rw [sck_idle (s := s.installMode cpol cpha) idle]
    simp [hcfg]

/-- Settles O13: SETMODE writes SCKPU = CPOL, and the pad control is SCKPU (R41). -/
theorem pullUpFollowsPolarity : Obligations.PullUpFollowsPolarity := fun cpha _ hf hcfg hclosed =>
  ⟨⟨_, exec_setmode_closed true true hf hcfg hclosed, rfl, rfl⟩,
    ⟨_, exec_setmode_closed false cpha hf hcfg hclosed, rfl, rfl⟩⟩

end Sys2Proof.Machine
end

section
/-! Proofs of spec/41_spi_transfer.md's family: the commands WRBYTE and RDBYTE (R125, R126), which byte an overflow
leaves (R128), and the completion of every command (R131). -/

namespace Sys2Proof.Machine

/-! ### RDBYTE -/

/-- RDBYTE's checks in their order (R126). -/
theorem firstFault_rdbyte (s : State) : firstFault (checksOf .rdbyte) s =
    if !s.config.cfg then some .notInit else if !s.status.rxfull then some .rxEmpty else none := by
  simp only [checksOf, firstFault_cons, firstFault_nil]
  rfl

/-- Settles O18. -/
theorem rdbyteDeliversTheByte : Obligations.RdbyteDeliversTheByte := by
  intro s hf
  have word : encode .rdbyte = 0x50000000#32 := rfl
  refine ⟨decode_of_encode_eq word, fun hcfg => ?_, fun hcfg hempty => ?_, fun hcfg hfull => ?_⟩
  · exact exec_faulted (code := .notInit) word hf (by simp [firstFault_rdbyte, hcfg])
  · exact exec_faulted (code := .rxEmpty) word hf (by simp [firstFault_rdbyte, hcfg, hempty])
  · exact exec_effect (i := .rdbyte) hf (by simp [firstFault_rdbyte, hcfg, hfull])

/-! ### WRBYTE -/

/-- WRBYTE's word by its fields (R85). -/
theorem encode_wrbyte_fields (data : Byte) : encode (.wrbyte data) = 0x400000#24 ++ data :=
  encode_wrbyte data

/-- WRBYTE's checks in their order (R125). -/
theorem firstFault_wrbyte (data : Byte) (s : State) : firstFault (checksOf (.wrbyte data)) s =
    if !s.config.cfg then some .notInit
    else if !s.config.en then some .notEnabled
    else if s.div = 0#32 then some .noBaud
    else none := by
  simp [checksOf, firstFault_cons, firstFault_nil, faultHolds]

/-- A frame leaves the older byte or its own in RXBUF (R127, R128). -/
theorem State.shiftByte_rxbuf_cases (s : State) (tx : Byte) :
    (s.shiftByte tx).rxbuf = s.rxbuf ∨ (s.shiftByte tx).rxbuf = s.misoByte tx := by
  rw [State.shiftByte_rxbuf]
  exact ite_eq_or_eq _ _ _

/-- Settles O15: a WRBYTE that passes its checks is one frame, and its answer is the byte on MISO. -/
theorem wrbyteShiftsOneFrame : Obligations.WrbyteShiftsOneFrame := by
  intro data s hf
  have word := encode_wrbyte_fields data
  refine ⟨decode_of_encode_eq word, fun hcfg => ?_, fun hcfg hen => ?_, fun hcfg hen hdiv => ?_, fun hready => ?_⟩
  · exact exec_faulted (code := .notInit) word hf (by simp [firstFault_wrbyte, hcfg])
  · exact exec_faulted (code := .notEnabled) word hf (by simp [firstFault_wrbyte, hcfg, hen])
  · exact exec_faulted (code := .noBaud) word hf (by simp [firstFault_wrbyte, hcfg, hen, hdiv])
  · obtain ⟨frame, status⟩ := effectOf_sends (i := .wrbyte data) (List.cons_ne_nil _ _) s
    exact ⟨s.misoByte data, s.shiftByte data, exec_wrbyte_ready data hready, s.shiftByte_trace data,
      s.shiftByte_txsr data, State.shiftByte_rxbuf_of_empty data, fun _ => s.shiftByte_rxbuf_cases data,
      congrArg Status.rxfull status, congrArg Status.rovr status, congrArg Status.busy status,
      s.shiftByte_result data, frame⟩

/-! ### Overflow (R128) -/

/-- An overflow that the environment decides for the older byte leaves RXBUF as it was. -/
theorem State.shiftByte_rxbuf_of_older {s : State} {rest : List Survivor} (tx : Byte) (hfull : s.status.rxfull = true)
    (he : s.env.survivors = .older :: rest) : (s.shiftByte tx).rxbuf = s.rxbuf := by
  simp [hfull, State.keepsOlder, he]

/-- An overflow that it decides for the newer byte leaves the byte on MISO. -/
theorem State.shiftByte_rxbuf_of_newer {s : State} {rest : List Survivor} (tx : Byte)
    (he : s.env.survivors = .newer :: rest) : (s.shiftByte tx).rxbuf = s.misoByte tx := by
  simp [State.keepsOlder, he]

theorem frame_mem_frameEvents (s : State) (tx miso : Byte) :
    .frame tx miso s.config.cpol s.config.cpha s.div ∈ frameEvents s tx miso := by
  unfold frameEvents
  split <;> simp

/-- Settles O16: each survivor is left under the environment that decides for it, and the byte on MISO is any byte under
the environment that decides it. -/
theorem overflowKeepsEitherByte : Obligations.OverflowKeepsEitherByte := by
  intro data s hready hfull
  have ⟨hf, _⟩ := hready
  have runs (e : Env) :
      exec (.wrbyte data) { s with env := e } = .next (({ s with env := e } : State).shiftByte data) :=
    exec_wrbyte_ready data hready
  refine ⟨⟨s.misoByte data, _, runs s.env, ?_, ?_, ?_, s.shiftByte_rxbuf_cases data, ?_⟩, ⟨_, runs _, ?_⟩,
    ⟨_, _, runs _, State.shiftByte_rxbuf_of_newer data rfl, State.shiftByte_trace _ data⟩,
    fun m hrx hfree => ⟨_, runs _, ?_⟩⟩
  · simp [hfull]
  · simp
  · simpa using hf
  · rw [State.shiftByte_trace]
    exact List.mem_append_right _ (frame_mem_frameEvents s data _)
  · exact State.shiftByte_rxbuf_of_older data hfull rfl
  · exact (State.shiftByte_rxbuf_of_newer data rfl).trans (State.misoByte_decided data hrx hfree rfl)

/-! ### Completion (R131) -/

/-- Settles O41: no command has another outcome. -/
theorem everyCommandCompletes : Obligations.EveryCommandCompletes := exec_completes

end Sys2Proof.Machine
end

section
/-! Proofs of spec/41_spi_transfer.md's family: the sequencer's states (R132, R146, R163) perform the commands' meanings
(R120, R145, R160). -/

namespace Sys2Proof.Machine

/-! ### One frame -/

/-- Settles O22: TX_DONE is reached from the start of the frame, which sets BUSY and loads TXSR. -/
theorem transceiverStatesMakeTheEdges : Obligations.TransceiverStatesMakeTheEdges := by
  intro data s
  rw [show entryState (.wrbyte data) = .txLoad data .command from rfl, State.seqRun_load]
  exact ⟨rfl, by simp [State.frameStart_eq], by simp [State.frameStart_eq]⟩

/-- What a frame leaves of the block does not depend on the sequencer's state. -/
theorem State.frameEnd_fsm (s : State) (f : Fsm) (tx rx : Byte) :
    ({ s with fsm := f } : State).frameEnd tx rx = { s.frameEnd tx rx with fsm := f } := by
  simp only [State.frameEnd_eq]
  rfl

/-- The caller gives the sequencer its next state. -/
theorem State.resume_fsm (s : State) (f : Fsm) (c : Caller) : ({ s with fsm := f } : State).resume c = s.resume c := by
  cases c <;> rfl

/-- Eighteen states from `TX_LOAD` on, the frame is shifted and the caller is back (R120, R132). -/
theorem State.seqRun_frame (s : State) (tx : Byte) (c : Caller) :
    ({ s with fsm := .txLoad tx c } : State).seqRun 18 = (s.shiftByte tx).resume c := by
  rw [State.seqRun_add _ 17 1, State.seqRun_load]
  simp only [State.seqRun, State.seqStep, frameBits_tx, frameBits_rx, State.frameEnd_fsm, State.resume_fsm]
  rfl

/-! ### BURST -/

/-- From `BU_SHIFT(j)` on, every byte left takes its frame and its drain, and then the select line rises (R145, R146). -/
theorem State.seqRun_shifts (s : State) (j : Nat) (bytes : List Byte) :
    ({ s with fsm := nextShift j bytes } : State).seqRun (19 * bytes.length + 1) =
      { (s.shiftAll bytes).selOff with fsm := .idle } := by
  induction bytes generalizing s j with
  | nil => rfl
  | cons b rest ih =>
    rw [List.length_cons, show 19 * (rest.length + 1) + 1 = 18 + (1 + (19 * rest.length + 1)) by omega,
      State.seqRun_add, nextShift, State.seqRun_frame, State.seqRun_add]
    exact ih (s.shiftByte b).drain (j + 1)

/-- The states of BURST perform it (R145, R146). -/
theorem State.seqRun_burst (s : State) (bytes : List Byte) :
    ({ s with fsm := .buSelOn bytes } : State).seqRun (2 + (19 * bytes.length + 1)) =
      { s.burst bytes with fsm := .idle } := by
  rw [State.seqRun_add]
  exact s.selOn.seqRun_shifts 0 bytes

/-! ### TRANSACT -/

/-- Step 5 of TRANSACT, by its form (R160): the answer to the third byte is discarded on a write, delivered on a read. -/
def State.takeAnswer (s : State) (a : RegAccess) : State := if a.write then s.drain else s.deliver

/-- `RA_DAT` takes the answer, and the select line is next (R163). -/
theorem State.resume_raDat (s : State) (a : RegAccess) :
    s.resume (.raDat a) = { s.takeAnswer a with fsm := .raSelOff } := by
  cases h : a.write <;> simp [State.resume, State.takeAnswer, h]

/-- The states of TRANSACT perform it (R160, R163): three before the frames, and two after them. -/
theorem State.seqRun_transact (s : State) (a : RegAccess) :
    ({ s with fsm := .raPre a } : State).seqRun 59 =
      { (((s.transactHead a.opc a.reg).shiftByte a.third).takeAnswer a).transactTail with fsm := .idle } := by
  have head : ({ s with fsm := .raPre a } : State).seqRun 3 =
      { s.settle.selOn with fsm := .txLoad a.opc (.raOpc a) } := rfl
  have opcode (u : State) : u.resume (.raOpc a) = { u.drain with fsm := .txLoad a.reg (.raReg a) } := rfl
  have register (u : State) : u.resume (.raReg a) = { u.drain with fsm := .txLoad a.third (.raDat a) } := rfl
  rw [State.seqRun_add _ 3 56, head, State.seqRun_add _ 18 38, State.seqRun_frame, opcode, State.seqRun_add _ 18 20,
    State.seqRun_frame, register, State.seqRun_add _ 18 2, State.seqRun_frame, State.resume_raDat]
  rfl

/-! ### Refinement -/

/-- Every command with sequencer states is performed by them. -/
theorem State.seqRun_entry {i : Instr} (h : entryState i ≠ .idle) (s : State) :
    ({ s with fsm := entryState i } : State).seqRun (seqLength i) = { effectOf i s with fsm := .idle } := by
  cases i with
  | wrbyte data => exact s.seqRun_frame data .command
  | transactW opc reg data => exact s.seqRun_transact _
  | transactR opc reg => exact s.seqRun_transact _
  | burst1 b0 => exact s.seqRun_burst [b0]
  | burst2 b0 b1 => exact s.seqRun_burst [b0, b1]
  | burst3 b0 b1 b2 => exact s.seqRun_burst [b0, b1, b2]
  | _ => exact absurd rfl h

/-- Settles O23: a command that leaves no fault had its effect, which keeps the sequencer at IDLE. -/
theorem sequencerRefinesTheCommands : Obligations.SequencerRefinesTheCommands := by
  intro i s t hidle hentry hf hexec ht
  obtain ⟨-, rfl⟩ := exec_passed hf hexec ht
  obtain ⟨-, -, -, -, -, -, -, hfsm⟩ := commandsKeepOperandsAndHost i s _ hexec
  rw [State.seqRun_entry hentry, ← hidle, ← hfsm]

end Sys2Proof.Machine
end

section
/-! Proofs of spec/42_chip_select.md's family: what the select commands check and do (R140 to R142), and DELAY
(R152). -/

namespace Sys2Proof.Machine

/-! ### CSASSERT and CSDEASSERT -/

/-- CSASSERT's checks in their order (R141). -/
theorem firstFault_csassert (s : State) : firstFault (checksOf .csassert) s =
    if !s.config.cfg then some .notInit
    else if s.config.hwcs then some .hwcsConflict
    else if s.status.csa then some .csOpen
    else none := by
  simp only [checksOf, firstFault_cons, firstFault_nil]
  rfl

/-- CSDEASSERT's checks in their order (R142). -/
theorem firstFault_csdeassert (s : State) : firstFault (checksOf .csdeassert) s =
    if !s.config.cfg then some .notInit
    else if s.config.hwcs then some .hwcsConflict
    else if !s.status.csa then some .csNotOpen
    else none := by
  simp only [checksOf, firstFault_cons, firstFault_nil]
  rfl

/-- `SelOn` only adds its two events (R143). -/
theorem State.selOn_eq (s : State) :
    s.selOn = { s with trace := s.trace ++ [.csFall, .wait .css s.params.tCssCyc] } := by
  simp [State.selOn, State.selectLow, State.setupWait, State.emit]

/-- An open software transaction holds the select line low, also inside a command (R51). -/
theorem csN_open {s : State} (hcfg : s.config.cfg = true) (hsoft : s.config.hwcs = false) (hopen : s.status.csa = true) :
    csN s = .low := by
  simp [csN_initialized hcfg, selectLow, hsoft, hopen]

/-- With no software transaction open the select line is high between commands (R51). -/
theorem csN_idle_closed {s : State} (idle : s.fsm = .idle) (hcfg : s.config.cfg = true)
    (hclosed : s.status.csa = false) : csN s = .high := by
  simp [csN_idle idle, hcfg, hclosed]

/-- Settles O24: a CSASSERT that passes its checks opens the transaction, which holds the line low. -/
theorem csassertOpensATransaction : Obligations.CsassertOpensATransaction := by
  intro s hf
  have word : encode .csassert = 0x60000000#32 := rfl
  refine ⟨decode_of_encode_eq word, fun hcfg => ?_, fun hcfg hhard => ?_, fun hcfg hsoft hopen => ?_,
    fun hcfg hsoft hclosed => ?_⟩
  · exact exec_faulted (code := .notInit) word hf (by simp [firstFault_csassert, hcfg])
  · exact exec_faulted (code := .hwcsConflict) word hf (by simp [firstFault_csassert, hcfg, hhard])
  · exact exec_faulted (code := .csOpen) word hf (by simp [firstFault_csassert, hcfg, hsoft, hopen])
  · exact ⟨(s.setOpen true).selOn, exec_effect hf (by simp [firstFault_csassert, hcfg, hsoft, hclosed]),
      csN_open hcfg hsoft rfl, (s.setOpen true).selOn_eq⟩

/-- Settles O25: a CSDEASSERT that passes its checks closes the transaction, so at a boundary nothing holds the line. -/
theorem csdeassertClosesTheTransaction : Obligations.CsdeassertClosesTheTransaction := by
  intro s hf
  have word : encode .csdeassert = 0x70000000#32 := rfl
  refine ⟨decode_of_encode_eq word, fun hcfg => ?_, fun hcfg hhard => ?_, fun hcfg hsoft hclosed => ?_,
    fun hcfg hsoft hopen => ?_⟩
  · exact exec_faulted (code := .notInit) word hf (by simp [firstFault_csdeassert, hcfg])
  · exact exec_faulted (code := .hwcsConflict) word hf (by simp [firstFault_csdeassert, hcfg, hhard])
  · exact exec_faulted (code := .csNotOpen) word hf (by simp [firstFault_csdeassert, hcfg, hsoft, hclosed])
  · exact ⟨(s.setOpen false).selOff, exec_effect hf (by simp [firstFault_csdeassert, hcfg, hsoft, hopen]),
      fun idle => csN_idle_closed idle hcfg rfl, rfl⟩

/-! ### DELAY -/

/-- DELAY's word by its fields (R90). -/
theorem encode_delay_fields (us : BitVec 24) : encode (.delay us) = 0xA0#8 ++ us := rfl

/-- Settles O28: DELAY has no check to fail. -/
theorem delayOnlyEmitsItsWait : Obligations.DelayOnlyEmitsItsWait := fun us _ hf =>
  ⟨decode_of_encode_eq (encode_delay_fields us), exec_effect (i := .delay us) hf (firstFault_nil _)⟩

/-! ### The checks of BURST and TRANSACT -/

/-- The checks of BURST and TRANSACT in their order (R145, R160). -/
theorem firstFault_transferChecks (s : State) : firstFault transferChecks s =
    if !s.config.cfg then some .notInit
    else if s.config.hwcs then some .hwcsConflict
    else if s.status.csa then some .csOpen
    else if !s.config.en then some .notEnabled
    else if s.div = 0#32 then some .noBaud
    else none := by
  simp [transferChecks, firstFault_cons, firstFault_nil, faultHolds]

/-- The commands with a select bracket of their own are those with these checks (R145, R160). -/
theorem checksOf_of_hasOwnBracket {i : Instr} (h : hasOwnBracket i = true) : checksOf i = transferChecks := by
  cases i with
  | transactW | transactR | burst1 | burst2 | burst3 => rfl
  | _ => cases h

/-- BURST and TRANSACT fault with the first of their checks that fails (R145, R160). -/
theorem exec_hasOwnBracket_faults {i : Instr} {w : Word} {s : State} (hi : hasOwnBracket i = true) (hw : encode i = w)
    (hf : s.status.fault = false) :
    (s.config.cfg = false → exec i s = .next (faulted s 2#4 w)) ∧
    (s.config.cfg = true → s.config.hwcs = true → exec i s = .next (faulted s 3#4 w)) ∧
    (s.config.cfg = true → s.config.hwcs = false → s.status.csa = true → exec i s = .next (faulted s 4#4 w)) ∧
    (s.config.cfg = true → s.config.hwcs = false → s.status.csa = false → s.config.en = false →
      exec i s = .next (faulted s 8#4 w)) ∧
    (s.config.cfg = true → s.config.hwcs = false → s.status.csa = false → s.config.en = true → s.div = 0#32 →
      exec i s = .next (faulted s 9#4 w)) := by
  have faults {code : FaultCode} (h : firstFault transferChecks s = some code) :
      exec i s = .next (faulted s (codeOf code) w) := exec_faulted hw hf (checksOf_of_hasOwnBracket hi ▸ h)
  refine ⟨fun hcfg => faults (code := .notInit) ?_, fun hcfg hhard => faults (code := .hwcsConflict) ?_,
    fun hcfg hsoft hopen => faults (code := .csOpen) ?_, fun hcfg hsoft hclosed hen => faults (code := .notEnabled) ?_,
    fun hcfg hsoft hclosed hen hdiv => faults (code := .noBaud) ?_⟩
  · simp [firstFault_transferChecks, hcfg]
  · simp [firstFault_transferChecks, hcfg, hhard]
  · simp [firstFault_transferChecks, hcfg, hsoft, hopen]
  · simp [firstFault_transferChecks, hcfg, hsoft, hclosed, hen]
  · simp [firstFault_transferChecks, hcfg, hsoft, hclosed, hen, hdiv]

/-- Settles O26: of each command's checks, CS_OPEN (for CSDEASSERT, CS_NOT_OPEN) is the first that can fail in an
initialized block with software select. -/
theorem chipSelectContractIsEnforced : Obligations.ChipSelectContractIsEnforced := by
  intro i s hf hcfg hsoft
  refine ⟨fun hopen hi => ?_, fun hclosed => ?_⟩
  · refine exec_faulted (code := .csOpen) rfl hf ?_
    obtain rfl | own | ⟨hwcs, rxen, rfl⟩ | rfl | ⟨cpol, cpha, rfl⟩ := hi
    · simp [firstFault_csassert, hcfg, hsoft, hopen]
    · simp [checksOf_of_hasOwnBracket own, firstFault_transferChecks, hcfg, hsoft, hopen]
    · simp [firstFault_init, hopen]
    · simp [firstFault_setbaud, hcfg, hopen]
    · simp [firstFault_setmode, hcfg, hopen]
  · exact exec_faulted (code := .csNotOpen) rfl hf (by simp [firstFault_csdeassert, hcfg, hsoft, hclosed])

end Sys2Proof.Machine
end

section
/-! Proofs of spec/42_chip_select.md's family: what a BURST sends and leaves (R145), and the select bracket of a BURST
or TRANSACT (R149, R150, R165). -/

namespace Sys2Proof.Machine

/-! ### A list of drained frames -/

/-- Every frame captures one answer (R129). -/
@[simp] theorem State.length_answers (s : State) (bytes : List Byte) : (s.answers bytes).length = bytes.length := by
  induction bytes generalizing s with
  | nil => rfl
  | cons b rest ih => rw [State.answers, List.length_cons, ih, List.length_cons]

/-- TXSR holds the last byte sent (R120). -/
theorem State.shiftAll_cons_txsr (s : State) (b : Byte) (rest : List Byte) :
    (b :: rest).getLast? = some (s.shiftAll (b :: rest)).txsr := by
  induction rest generalizing s b with
  | nil => simp [State.shiftAll]
  | cons c rest ih => exact ih (s.shiftByte b).drain c

/-- RXBUF holds the last answer, unless the only frame overflowed: every later frame finds its predecessor's byte drained
(R127, R147). -/
theorem State.shiftAll_cons_rxbuf {s : State} {b : Byte} {rest : List Byte}
    (h : s.status.rxfull = false ∨ 2 ≤ (b :: rest).length) :
    (s.answers (b :: rest)).getLast? = some (s.shiftAll (b :: rest)).rxbuf := by
  induction rest generalizing s b with
  | nil =>
    have empty : s.status.rxfull = false := by simpa using h
    simp [State.answers, State.shiftAll, empty]
  | cons c rest ih => exact ih (s := (s.shiftByte b).drain) (.inl rfl)

/-- One drained frame leaves the older byte or its answer in RXBUF (R128). -/
theorem State.shiftAll_singleton_rxbuf (s : State) (b : Byte) :
    (s.shiftAll [b]).rxbuf = s.rxbuf ∨ (s.answers [b]).getLast? = some (s.shiftAll [b]).rxbuf := by
  obtain older | answer := s.shiftByte_rxbuf_cases b
  · exact .inl older
  · exact .inr (congrArg some answer.symm)

/-! ### BURST -/

/-- BURST1's word by its fields (R89). -/
theorem encode_burst1_fields (b0 : Byte) : encode (.burst1 b0) = 0x94#8 ++ b0 ++ 0#16 :=
  (encode_burst1 b0).trans BitVec.append_assoc

/-- A command that only shifts frames leaves a high select line high at a boundary (R51). -/
theorem csN_of_transferFrame {s t : State} (frame : TransferFrame s t) (hcfg : s.config.cfg = true)
    (hclosed : s.status.csa = false) (idle : s.fsm = .idle) : csN t = .high := by
  obtain ⟨-, -, -, config, -, -, csa, -, -, fsm, -⟩ := frame
  exact csN_idle_closed (fsm.trans idle) (config ▸ hcfg) (csa.trans hclosed)

/-- The trace of a BURST: the select bracket around its frames (R145). -/
theorem State.burst_trace {s : State} (bytes : List Byte) (hsoft : s.config.hwcs = false) : (s.burst bytes).trace =
    s.trace ++ [.csFall, .wait .css s.params.tCssCyc] ++ framesOf s bytes (s.selOn.answers bytes) ++ [.csRise] := by
  rw [State.burst, State.selOff_trace, State.shiftAll_trace (s := s.selOn) bytes hsoft, State.selOn_trace]
  rfl

/-- Settles O27: the frames of a BURST are drained ones, inside its bracket. -/
theorem burstSendsItsBytesUnderOneSelect : Obligations.BurstSendsItsBytesUnderOneSelect := by
  intro b0 b1 b2 i w bytes s form hf
  obtain ⟨word, own, sends, effect⟩ :
      encode i = w ∧ hasOwnBracket i = true ∧ bytes ≠ [] ∧ effectOf i s = s.burst bytes := by
    obtain ⟨rfl, rfl, rfl⟩ | ⟨rfl, rfl, rfl⟩ | ⟨rfl, rfl, rfl⟩ := form
    · exact ⟨encode_burst1_fields b0, rfl, List.cons_ne_nil _ _, rfl⟩
    · exact ⟨encode_burst2 b0 b1, rfl, List.cons_ne_nil _ _, rfl⟩
    · exact ⟨encode_burst3 b0 b1 b2, rfl, List.cons_ne_nil _ _, rfl⟩
  obtain ⟨notInit, conflict, opened, disabled, noBaud⟩ := exec_hasOwnBracket_faults own word hf
  refine ⟨decode_of_encode_eq word, notInit, conflict, opened, disabled, noBaud, fun hready => ?_⟩
  obtain ⟨b, rest, rfl⟩ := List.exists_cons_of_ne_nil sends
  have ⟨_, hcfg, hsoft, hclosed, _⟩ := hready
  have runs : exec i s = .next (s.burst (b :: rest)) :=
    effect ▸ exec_effect hf (checksOf_of_hasOwnBracket own ▸ transferChecks_pass hready)
  obtain ⟨frame, status⟩ := s.burst_cons_frame b rest
  refine ⟨s.selOn.answers (b :: rest), s.burst (b :: rest), State.length_answers _ _, runs, State.burst_trace _ hsoft,
    s.selOn.shiftAll_cons_txsr b rest, State.shiftAll_cons_rxbuf (s := s.selOn), fun _ one => ?_,
    congrArg Status.rxfull status, congrArg Status.rovr status, congrArg Status.busy status,
    s.selOn.shiftAll_result (b :: rest), csN_of_transferFrame frame hcfg hclosed, frame⟩
  obtain rfl : rest = [] := by simpa using one
  exact s.selOn.shiftAll_singleton_rxbuf b

/-! ### Select brackets -/

/-- The events of a list of frames are `Frame` events only. -/
theorem isFrame_of_mem_framesOf {s : State} {tx rx : List Byte} {e : WireEvent} (h : e ∈ framesOf s tx rx) :
    isFrame e = true := by
  obtain ⟨i, hi, rfl⟩ := List.getElem_of_mem h
  simp [framesOf, isFrame]

/-- An event that is a frame does not move the select line. -/
theorem isSelectEvent_of_isFrame {e : WireEvent} (h : isFrame e = true) : isSelectEvent e = false := by
  cases e with
  | frame => rfl
  | _ => cases h

/-- Waits around a setup wait and frames in a select pair are a bracket around those frames (R149, R150). -/
theorem bracketed_framesOf {s : State} {tx rx : List Byte} {before after : List WireEvent} (n : Nat)
    (hlen : rx.length = tx.length) (hwaits : ∀ e ∈ before ++ after, ∃ kind k, e = .wait kind k) :
    Bracketed tx.length
      (before ++ [.csFall] ++ (.wait .css n :: framesOf s tx rx) ++ [.csRise] ++ after) := by
  refine ⟨before, .wait .css n :: framesOf s tx rx, after, rfl, fun e he => ?_, fun e he => ?_, ?_⟩
  · have wait {e : WireEvent} (h : e ∈ before ++ after) : isSelectEvent e = false := by
      obtain ⟨kind, k, rfl⟩ := hwaits e h
      rfl
    obtain (he | rfl | he) | he := by simpa only [List.mem_append, List.mem_cons] using he
    · exact wait (List.mem_append_left after he)
    · rfl
    · exact isSelectEvent_of_isFrame (isFrame_of_mem_framesOf he)
    · exact wait (List.mem_append_right before he)
  · obtain ⟨kind, k, rfl⟩ := hwaits e he
    rfl
  · rw [List.filter_cons_of_neg (by simp [isFrame]),
      List.filter_eq_self.2 fun e he => isFrame_of_mem_framesOf he]
    simp [framesOf, hlen]

/-- A BURST is one select bracket around its frames (R145). -/
theorem State.burst_bracketed {s : State} (bytes : List Byte) (hsoft : s.config.hwcs = false) :
    ∃ events, (s.burst bytes).trace = s.trace ++ events ∧ Bracketed bytes.length events := by
  refine ⟨_, ?_, bracketed_framesOf (s := s) (before := []) (after := []) s.params.tCssCyc
    (s.selOn.length_answers bytes) (by simp)⟩
  rw [State.burst_trace bytes hsoft]
  simp

/-- The trace of a TRANSACT: settle waits around the select bracket around its frames (R160). -/
theorem State.transact_trace {s : State} (bytes : List Byte) (hsoft : s.config.hwcs = false) :
    (s.settle.selOn.shiftAll bytes).transactTail.trace =
      s.trace ++ [.wait .settle s.params.tSettleUs, .csFall, .wait .css s.params.tCssCyc] ++
        framesOf s bytes (s.settle.selOn.answers bytes) ++ [.csRise, .wait .settle s.params.tSettleUs] := by
  rw [State.transactTail_trace, State.shiftAll_trace (s := s.settle.selOn) bytes hsoft, State.settle_selOn_trace,
    State.shiftAll_params]
  simp [framesOf]

/-- Drained frames inside TRANSACT's steps are one select bracket around them (R160, R165). -/
theorem State.transact_bracketed {s : State} (bytes : List Byte) (hsoft : s.config.hwcs = false) :
    ∃ events, (s.settle.selOn.shiftAll bytes).transactTail.trace = s.trace ++ events ∧
      Bracketed bytes.length events := by
  refine ⟨_, ?_, bracketed_framesOf (s := s) (before := [.wait .settle s.params.tSettleUs])
    (after := [.wait .settle s.params.tSettleUs]) s.params.tCssCyc (s.settle.selOn.length_answers bytes) (by simp)⟩
  rw [State.transact_trace bytes hsoft]
  simp

/-- Settles O29: the events of a command that runs are those of its bracket. -/
theorem transfersAreWholeSelectBrackets : Obligations.TransfersAreWholeSelectBrackets := by
  intro i s t own hf hexec ht
  obtain ⟨hpass, rfl⟩ := exec_passed hf hexec ht
  have ⟨hsoft, _⟩ := transferChecks_select (checksOf_of_hasOwnBracket own ▸ hpass)
  cases i with
  | transactW opc reg data => exact State.transact_bracketed [opc, reg, data] hsoft
  | transactR opc reg =>
    rw [effectOf_transactR_trace]
    exact State.transact_bracketed [opc, reg, 0#8] hsoft
  | burst1 b0 => exact State.burst_bracketed [b0] hsoft
  | burst2 b0 b1 => exact State.burst_bracketed [b0, b1] hsoft
  | burst3 b0 b1 b2 => exact State.burst_bracketed [b0, b1, b2] hsoft
  | _ => cases own

end Sys2Proof.Machine
end

section
/-! Proofs of spec/43_register_access.md's family: what the two forms of TRANSACT check, send and leave (R160 to R162),
and what they keep from the host (R164). -/

namespace Sys2Proof.Machine

/-! ### Both forms of TRANSACT -/

/-- TRANSACT.W or TRANSACT.R (R88, R160). -/
abbrev IsTransact (i : Instr) : Prop :=
  (∃ opc reg data, i = .transactW opc reg data) ∨ ∃ opc reg, i = .transactR opc reg

theorem IsTransact.hasOwnBracket {i : Instr} (hi : IsTransact i) : hasOwnBracket i = true := by
  obtain ⟨opc, reg, data, rfl⟩ | ⟨opc, reg, rfl⟩ := hi <;> rfl

theorem IsTransact.bytesSent_ne_nil {i : Instr} (hi : IsTransact i) : bytesSent i ≠ [] := by
  obtain ⟨opc, reg, data, rfl⟩ | ⟨opc, reg, rfl⟩ := hi <;> exact List.cons_ne_nil _ _

/-- A TRANSACT in a block that is ready for it runs (R160). -/
theorem IsTransact.exec_ready {i : Instr} (hi : IsTransact i) {s : State} (hready : TransferReady s) :
    exec i s = .next (effectOf i s) :=
  exec_effect hready.1 (checksOf_of_hasOwnBracket hi.hasOwnBracket ▸ transferChecks_pass hready)

/-- A TRANSACT is its drained frames inside its bracket, whatever it does to RESULT (R160). -/
theorem IsTransact.effectOf_eq {i : Instr} (hi : IsTransact i) (s : State) : effectOf i s =
    { (s.settle.selOn.shiftAll (bytesSent i)).transactTail with result := (effectOf i s).result } := by
  obtain ⟨opc, reg, data, rfl⟩ | ⟨opc, reg, rfl⟩ := hi
  · rw [effectOf_transactW]
    rfl
  · rw [effectOf_transactR]
    rfl

/-- The trace of a TRANSACT: settle waits around the select bracket around its frames (R160). -/
theorem IsTransact.effectOf_trace {i : Instr} (hi : IsTransact i) {s : State} (hsoft : s.config.hwcs = false) :
    (effectOf i s).trace =
      s.trace ++ [.wait .settle s.params.tSettleUs, .csFall, .wait .css s.params.tCssCyc] ++
        framesOf s (bytesSent i) (s.settle.selOn.answers (bytesSent i)) ++
        [.csRise, .wait .settle s.params.tSettleUs] := by
  rw [hi.effectOf_eq]
  exact State.transact_trace (bytesSent i) hsoft

/-- The three frames of a TRANSACT, by the answers they capture: TXSR is left with the last byte sent and RXBUF with the
last answer, since only the first frame can overflow (R160, R164). -/
theorem IsTransact.effectOf_frames {i : Instr} (hi : IsTransact i) {b0 b1 b2 : Byte}
    (hbytes : bytesSent i = [b0, b1, b2]) {s : State} (hsoft : s.config.hwcs = false) : ∃ m0 m1 m2,
      (effectOf i s).trace = s.trace ++ [.wait .settle s.params.tSettleUs, .csFall, .wait .css s.params.tCssCyc] ++
        framesOf s [b0, b1, b2] [m0, m1, m2] ++ [.csRise, .wait .settle s.params.tSettleUs] ∧
      (effectOf i s).txsr = b2 ∧ (effectOf i s).rxbuf = m2 := by
  have trace := hi.effectOf_trace hsoft
  have sent := s.settle.selOn.shiftAll_cons_txsr b0 [b1, b2]
  have received := State.shiftAll_cons_rxbuf (s := s.settle.selOn) (b := b0) (rest := [b1, b2]) (.inr (by simp))
  rw [hi.effectOf_eq, hbytes] at trace ⊢
  exact ⟨_, _, _, trace, (Option.some.inj sent).symm, (Option.some.inj received).symm⟩

/-- What a TRANSACT that runs leaves of STATUS, the select line and everything outside its frames: its last byte is
drained or delivered, so RXFULL is 0 (R160). -/
theorem IsTransact.effectOf_leaves {i : Instr} (hi : IsTransact i) {s : State} (hready : TransferReady s) :
    (effectOf i s).status.rxfull = false ∧ (effectOf i s).status.rovr = (s.status.rovr || s.status.rxfull) ∧
      (effectOf i s).status.busy = false ∧ (s.fsm = .idle → csN (effectOf i s) = .high) ∧
      TransferFrame s (effectOf i s) := by
  have ⟨_, hcfg, _, hclosed, _⟩ := hready
  obtain ⟨frame, status⟩ := effectOf_sends hi.bytesSent_ne_nil s
  rw [hi.hasOwnBracket] at status
  exact ⟨congrArg Status.rxfull status, congrArg Status.rovr status, congrArg Status.busy status,
    csN_of_transferFrame frame hcfg hclosed, frame⟩

/-! ### TRANSACT.W -/

/-- Settles O30: nothing is delivered, so RESULT stays. -/
theorem transactWriteSendsThreeBytes : Obligations.TransactWriteSendsThreeBytes := by
  intro opc reg data s hf i w
  have hi : IsTransact i := .inl ⟨opc, reg, data, rfl⟩
  have word : encode i = w := encode_transactW opc reg data
  obtain ⟨notInit, conflict, opened, disabled, noBaud⟩ := exec_hasOwnBracket_faults hi.hasOwnBracket word hf
  refine ⟨decode_of_encode_eq word, notInit, conflict, opened, disabled, noBaud, fun hready => ?_⟩
  have ⟨_, _, hsoft, _⟩ := hready
  obtain ⟨m0, m1, m2, trace, txsr, rxbuf⟩ := hi.effectOf_frames (b0 := opc) (b1 := reg) (b2 := data) rfl hsoft
  have result : (effectOf i s).result = s.result := effectOf_result (by simp [i]) (by simp [i]) s
  exact ⟨m0, m1, m2, effectOf i s, hi.exec_ready hready, trace, txsr, rxbuf, result, hi.effectOf_leaves hready⟩

/-! ### TRANSACT.R -/

/-- A TRANSACT.R delivers the byte its third frame leaves in RXBUF (R160, R162). -/
theorem effectOf_transactR_result (opc reg : Byte) (s : State) :
    (effectOf (.transactR opc reg) s).result = (effectOf (.transactR opc reg) s).rxbuf := rfl

/-- A field of a field is a field of the word. -/
theorem extractLsb'_byteAt (w : Word) {lo k n : Nat} (h : k + n ≤ 8) :
    (byteAt w lo).extractLsb' k n = w.extractLsb' (lo + k) n := by
  apply BitVec.eq_of_getLsbD_eq
  intro j hj
  simp [byteAt, hj, show k + j < 8 by omega, Nat.add_assoc]

/-- A TRANSACT.R word whose lowest byte is not 0 selects no command (R93). -/
theorem decode_transactR_word_illegal {opc reg low : Byte} (hlow : low ≠ 0#8) :
    ∃ why, decode (0x80#8 ++ opc ++ reg ++ low) = .illegal why := by
  have top {k n : Nat} (h : k + n ≤ 8) :
      (0x80#8 ++ opc ++ reg ++ low : Word).extractLsb' (24 + k) n = (0x80#8).extractLsb' k n := by
    rw [← extractLsb'_byteAt _ h, byteAt_bytes_24]
  have hop : opOf (0x80#8 ++ opc ++ reg ++ low) = 8 := congrArg BitVec.toNat (top (k := 4) (n := 4) (by omega))
  have hdir : (0x80#8 ++ opc ++ reg ++ low : Word).extractLsb' 24 1 = 0#1 := top (k := 0) (n := 1) (by omega)
  have hdata : (0x80#8 ++ opc ++ reg ++ low : Word).extractLsb' 0 8 ≠ 0#8 :=
    fun h => hlow ((byteAt_bytes_0 _ opc reg low).symm.trans h)
  exact (decode_illegal_iff_illegalFields _).2 (by simp [IllegalFields, hop, hdir, hdata])

/-- Settles O31: RESULT is the third answer, which RXBUF is left with. -/
theorem transactReadDeliversTheThirdByte : Obligations.TransactReadDeliversTheThirdByte := by
  intro opc reg s hf i w
  have hi : IsTransact i := .inr ⟨opc, reg, rfl⟩
  have word : encode i = w := encode_transactR opc reg
  obtain ⟨notInit, conflict, opened, disabled, noBaud⟩ := exec_hasOwnBracket_faults hi.hasOwnBracket word hf
  refine ⟨decode_of_encode_eq word, fun _ => decode_transactR_word_illegal, notInit, conflict, opened, disabled, noBaud,
    fun hready => ?_⟩
  have ⟨_, _, hsoft, _⟩ := hready
  obtain ⟨m0, m1, m2, trace, txsr, rxbuf⟩ := hi.effectOf_frames (b0 := opc) (b1 := reg) (b2 := 0#8) rfl hsoft
  have result : (effectOf i s).result = m2 := (effectOf_transactR_result opc reg s).trans rxbuf
  exact ⟨m0, m1, m2, effectOf i s, hi.exec_ready hready, trace, txsr, result, rxbuf, hi.effectOf_leaves hready⟩

/-! ### What a TRANSACT keeps from the host -/

/-- A command that sends bytes leaves the same registers, RESULT apart, from states that differ in nothing but the
environment, RXBUF and TXSR (R129, R164). -/
theorem effectOf_sends_registers {i : Instr} (hi : bytesSent i ≠ []) (s : State) (e : Env) (rxbuf txsr : Byte) :
    SameRegisters (effectOf i s) (effectOf i { s with env := e, rxbuf := rxbuf, txsr := txsr }) := by
  obtain ⟨⟨-, h0, h1, hc, hd, hw, -⟩, hst⟩ := effectOf_sends hi s
  obtain ⟨⟨-, h0', h1', hc', hd', hw', -⟩, hst'⟩ :=
    effectOf_sends hi { s with env := e, rxbuf := rxbuf, txsr := txsr }
  simp only [SameRegisters, h0, h1, hc, hd, hw, hst, h0', h1', hc', hd', hw', hst', and_self]

/-- An RDBYTE after a TRANSACT that ran finds nothing to deliver (R126, R164). -/
theorem IsTransact.exec_rdbyte_after {i : Instr} (hi : IsTransact i) {s : State} (hready : TransferReady s) :
    exec .rdbyte (effectOf i s) = .next (faulted (effectOf i s) 10#4 0x50000000#32) := by
  have ⟨hf, hcfg, _⟩ := hready
  obtain ⟨empty, -, -, -, -, -, -, config, -, -, -, fault, -⟩ := hi.effectOf_leaves hready
  exact exec_faulted (code := .rxEmpty) rfl (fault.trans hf) (by simp [firstFault_rdbyte, config, hcfg, empty])

/-- Settles O33: both runs have their effect, which writes the same registers and, for TRANSACT.W, keeps RESULT. -/
theorem discardedBytesAreNeverSurfaced : Obligations.DiscardedBytesAreNeverSurfaced := by
  intro i s s' t t' hi hready hs h h'
  have hi : IsTransact i := hi
  obtain ⟨e, rxbuf, txsr, rfl⟩ : ∃ e rxbuf txsr, s' = { s with env := e, rxbuf := rxbuf, txsr := txsr } :=
    ⟨_, _, _, hs⟩
  rw [hi.exec_ready hready] at h
  rw [hi.exec_ready (s := { s with env := e, rxbuf := rxbuf, txsr := txsr }) hready] at h'
  cases h; cases h'
  have same := effectOf_sends_registers hi.bytesSent_ne_nil s e rxbuf txsr
  refine ⟨?_, fun r hr => same.readReg hr, hi.exec_rdbyte_after hready⟩
  rintro ⟨opc, reg, data, rfl⟩
  have kept (u : State) : (effectOf (.transactW opc reg data) u).result = u.result :=
    effectOf_result (by simp) (by simp) u
  exact same.hostVisible (by rw [kept, kept])

end Sys2Proof.Machine
end

section
/-! Proofs of spec/43_register_access.md's family: which commands insert settle waits (R160, R167). -/

namespace Sys2Proof.Machine

/-- A frame is no settle wait. -/
theorem isSettle_of_isFrame {e : WireEvent} (h : isFrame e = true) : isSettle e = false := by
  cases e with
  | frame => rfl
  | _ => cases h

theorem filter_isSettle_framesOf (s : State) (tx rx : List Byte) : (framesOf s tx rx).filter isSettle = [] :=
  List.filter_eq_nil_iff.2 fun _ he => by simp [isSettle_of_isFrame (isFrame_of_mem_framesOf he)]

theorem filter_isSettle_frameEvents (s : State) (tx miso : Byte) : (frameEvents s tx miso).filter isSettle = [] := by
  unfold frameEvents
  split <;> rfl

/-- `t`'s trace adds events to `s`'s, none of them a settle wait. -/
def AddsNoSettle (s t : State) : Prop :=
  ∃ events, t.trace = s.trace ++ events ∧ events.filter isSettle = []

/-- A BURST inserts no settle wait (R145). -/
theorem State.burst_addsNoSettle {s : State} (bytes : List Byte) (hsoft : s.config.hwcs = false) :
    AddsNoSettle s (s.burst bytes) := by
  refine ⟨[.csFall, .wait .css s.params.tCssCyc] ++ framesOf s bytes (s.selOn.answers bytes) ++ [.csRise], ?_, ?_⟩
  · simp [State.burst_trace bytes hsoft]
  · simp [filter_isSettle_framesOf, isSettle]

/-- A command that passes its checks and is no TRANSACT inserts no settle wait (R167). -/
theorem effectOf_addsNoSettle {i : Instr} {s : State} (hi : ¬ IsTransact i)
    (hpass : firstFault (checksOf i) s = none) : AddsNoSettle s (effectOf i s) := by
  have burst (own : hasOwnBracket i = true) (bytes : List Byte) : AddsNoSettle s (s.burst bytes) :=
    State.burst_addsNoSettle bytes (transferChecks_select (checksOf_of_hasOwnBracket own ▸ hpass)).1
  cases i with
  | wrbyte data => exact ⟨_, s.shiftByte_trace data, filter_isSettle_frameEvents s data _⟩
  | csassert => exact ⟨[.csFall, .wait .css s.params.tCssCyc], by simp [effectOf], rfl⟩
  | csdeassert => exact ⟨[.csRise], rfl, rfl⟩
  | transactW opc reg data => exact absurd (.inl ⟨opc, reg, data, rfl⟩) hi
  | transactR opc reg => exact absurd (.inr ⟨opc, reg, rfl⟩) hi
  | burst1 b0 => exact burst rfl [b0]
  | burst2 b0 b1 => exact burst rfl [b0, b1]
  | burst3 b0 b1 b2 => exact burst rfl [b0, b1, b2]
  | delay us => exact ⟨[.wait .host us.toNat], rfl, rfl⟩
  | _ => exact ⟨[], (List.append_nil s.trace).symm, rfl⟩

/-- A TRANSACT inserts two settle waits, its first event and its last (R160, R167). -/
theorem IsTransact.effectOf_settles {i : Instr} (hi : IsTransact i) {s : State} (hsoft : s.config.hwcs = false) :
    ∃ events, (effectOf i s).trace = s.trace ++ events ∧
      events.filter isSettle = [.wait .settle s.params.tSettleUs, .wait .settle s.params.tSettleUs] ∧
      events.head? = some (.wait .settle s.params.tSettleUs) ∧
      events.getLast? = some (.wait .settle s.params.tSettleUs) := by
  refine ⟨[.wait .settle s.params.tSettleUs, .csFall, .wait .css s.params.tCssCyc] ++
    framesOf s (bytesSent i) (s.settle.selOn.answers (bytesSent i)) ++
    [.csRise, .wait .settle s.params.tSettleUs], ?_, ?_, rfl, ?_⟩
  · simp [hi.effectOf_trace hsoft]
  · rw [List.filter_append, List.filter_append, filter_isSettle_framesOf]
    rfl
  · rw [List.getLast?_append]
    rfl

/-- Settles O35: a command that ran is a TRANSACT or inserts no settle wait. -/
theorem onlyTransactSettles : Obligations.OnlyTransactSettles := by
  intro i s t hf hexec ht
  obtain ⟨hpass, rfl⟩ := exec_passed hf hexec ht
  by_cases hi : IsTransact i
  · obtain ⟨hsoft, -⟩ := transferChecks_select (checksOf_of_hasOwnBracket hi.hasOwnBracket ▸ hpass)
    obtain ⟨events, trace, settles⟩ := hi.effectOf_settles hsoft
    refine ⟨events, trace, fun _ => settles, fun ⟨noWrite, noRead⟩ => ?_⟩
    obtain ⟨opc, reg, data, rfl⟩ | ⟨opc, reg, rfl⟩ := hi
    · exact absurd rfl (noWrite opc reg data)
    · exact absurd rfl (noRead opc reg)
  · obtain ⟨events, trace, noSettle⟩ := effectOf_addsNoSettle hi hpass
    exact ⟨events, trace, fun h => absurd h hi, fun _ => noSettle⟩

end Sys2Proof.Machine
end

section
/-! Proofs of spec/60_exceptions.md's family: which fault a command word reports (R182, R183). -/

namespace Sys2Proof.Machine

/-! ### The fault table by its codes (R182) -/

/-- The faults of decoded commands, in the order of their codes, which is their priority (R183). -/
def commandFaults : List FaultCode :=
  [.notInit, .hwcsConflict, .csOpen, .csNotOpen, .baudZero, .divRange, .notEnabled, .noBaud, .rxEmpty]

/-- The row of the fault table that the machine's own checks give a fault: the commands that check it, and when the check
fails. -/
def FaultCode.row (c : FaultCode) : FaultRow :=
  { code := codeOf c
    raisedBy := fun i => decide (c ∈ checksOf i)
    condition := fun s => faultHolds s c }

/-- The fault table is the table of the commands' checks, row by row (R182). -/
theorem faultTable_eq_map_row : faultTable = commandFaults.map FaultCode.row := by
  simp only [faultTable, commandFaults, List.map, List.cons.injEq, FaultRow.mk.injEq, FaultCode.row, and_true]
  refine ⟨⟨rfl, ?_, rfl⟩, ⟨rfl, ?_, rfl⟩, ⟨rfl, ?_, rfl⟩, ⟨rfl, ?_, rfl⟩, ⟨rfl, ?_, ?baud⟩, ⟨rfl, ?_, ?range⟩,
    ⟨rfl, ?_, rfl⟩, ⟨rfl, ?_, ?noBaud⟩, ⟨rfl, ?_, rfl⟩⟩
  case baud => funext s; simp [faultHolds, beq_eq_decide, BitVec.toNat_eq]
  case range => funext s; simp [faultHolds, beq_eq_decide, divisor_eq]
  case noBaud => funext s; simp [faultHolds, beq_eq_decide, BitVec.toNat_eq]
  all_goals funext i; cases i <;> rfl

/-- Every command makes its checks in the order of the codes (R183). -/
theorem checksOf_eq_filter (i : Instr) : checksOf i = commandFaults.filter (· ∈ checksOf i) := by
  cases i <;> rfl

/-- A command's first failing check is the first row of the table it raises whose condition holds (R183). -/
theorem reportedCode_eq_firstFault (i : Instr) (s : State) :
    reportedCode i s = (firstFault (checksOf i) s).map codeOf := by
  rw [firstFault, checksOf_eq_filter, List.find?_filter, reportedCode, faultTable_eq_map_row, List.find?_map,
    Option.map_map]
  simp [Function.comp_def, FaultCode.row]

/-! ### What a command word reports (R180, R183) -/

/-- While FAULT = 1 a command word is ignored (R185). -/
theorem execute_ignored {s : State} (w : Word) (hf : s.status.fault = true) : execute w s = .next s := by
  rw [execute, if_pos hf]

/-- The effect of a command records no fault (R184). -/
theorem effectOf_keeps_fault (i : Instr) (s : State) :
    (effectOf i s).status.fault = s.status.fault ∧ (effectOf i s).status.fcode = s.status.fcode ∧
      (effectOf i s).fcmd = s.fcmd := by
  cases i using Instr.casesBySending with
  | sends i hi =>
    obtain ⟨⟨-, -, -, -, -, hfcmd, -, hfault, hcode, -⟩, -⟩ := effectOf_sends hi s
    exact ⟨hfault, hcode, hfcmd⟩
  | _ => exact ⟨rfl, rfl, rfl⟩

/-- Settles O36: the table gives the code of the command's first failing check, and the word is the command's own. -/
theorem faultTableIsExact : Obligations.FaultTableIsExact := by
  intro w s
  refine ⟨execute_ignored w, fun hf ⟨_, hill⟩ => execute_illegal hf hill, fun i code hf hi hcode => ?_,
    fun i hf hi hnone => ?_⟩
  · rw [reportedCode_eq_firstFault] at hcode
    obtain ⟨c, hfirst, rfl⟩ := Option.map_eq_some_iff.1 hcode
    rw [execute_command hi]
    exact exec_faulted (encodeOfDecodeIsTheWord w i hi) hf hfirst
  · rw [reportedCode_eq_firstFault, Option.map_eq_none_iff] at hnone
    obtain ⟨hfault, hcode, hfcmd⟩ := effectOf_keeps_fault i s
    exact ⟨effectOf i s, by rw [execute_command hi, exec_effect hf hnone], hfault.trans hf, hcode, hfcmd⟩

end Sys2Proof.Machine
end

section
/-! Proofs of spec/60_exceptions.md's family: what a faulted block keeps and its one exit (R185, R190), and what a block
with its clock gate closed or not settled keeps (R196). -/

namespace Sys2Proof.Machine

/-! ### A faulted block (R185, R190) -/

/-- What a block that has faulted in `s` still holds in `t`: STATUS, FCMD, RESULT, CONFIG, DIV and the trace (R185). -/
def KeepsFaultRecord (s t : State) : Prop :=
  t.status = s.status ∧ t.fcmd = s.fcmd ∧ t.result = s.result ∧ t.config = s.config ∧ t.div = s.div ∧ t.trace = s.trace

/-- A step of a faulted block that is no reset keeps them: no fault is raised and no command has its effect while
FAULT = 1. -/
theorem step_keepsFaultRecord {s t : State} (idle : s.fsm = .idle) (hf : s.status.fault = true) (h : step s = .next t)
    (noReset : s.host.head? ≠ some .rstLow) : KeepsFaultRecord s t := by
  have still {u : State} (kept : KeepsFaultRecord s u) (hu : u.status.fault = false) : False := by
    obtain ⟨status, -⟩ := kept
    simp [status, hf] at hu
  exact step_boundary_keeps (P := KeepsFaultRecord s) idle h ⟨rfl, rfl, rfl, rfl, rfl, rfl⟩
    (fun _ _ _ _ _ _ _ kept => kept) (fun reset => absurd reset noReset)
    (fun _ _ _ hu kept => (still kept hu).elim) (fun _ _ hu _ kept => (still kept hu).elim)

/-- A step that serves the reset pin going low resets the block (R210). -/
theorem step_rstLow {s : State} {rest : List HostStep} (idle : s.fsm = .idle) (hh : s.host = .rstLow :: rest) :
    step s = .next (({ s with host := rest } : State).applyReset false) := by
  rw [step_served idle hh, serve]

/-- Settles O40. -/
theorem onlyResetLeavesAFault : Obligations.OnlyResetLeavesAFault := by
  intro s t idle hf h
  refine ⟨step_keepsFaultRecord idle hf h, fun reset => ?_⟩
  obtain ⟨rest, hh⟩ := List.head?_eq_some_iff.1 reset
  rw [step_rstLow idle hh] at h
  cases h
  rfl

/-! ### The clock gate (R196, R214) -/

/-- A block whose clock gate is closed or not settled takes no access, in reset or not (R77, R210). -/
theorem accessGate_unsettled {s : State} (hc : s.blkClk ≠ .settled) : ∃ why, accessGate s = some why := by
  cases hr : s.rstN with
  | false => exact ⟨_, accessGate_heldInReset hr⟩
  | true => exact ⟨_, accessGate_clockGated hr hc⟩

/-- With the gate closed or not settled, only a reset reaches more than the two input pins (R196). -/
theorem serve_unsettled {h : HostStep} {s t : State} (hc : s.blkClk ≠ .settled) (noReset : h ≠ .rstLow)
    (hs : serve h s = .next t) : t = { s with blkClk := t.blkClk, rstN := t.rstN } := by
  have noAccess (ha : IsAccess h) : False := by
    obtain ⟨why, hgate⟩ := accessGate_unsettled hc
    rw [ha.serve_kept_out hgate] at hs
    cases hs
  cases h with
  | read off width => exact (noAccess (.inl ⟨off, width, rfl⟩)).elim
  | write off width v => exact (noAccess (.inr ⟨off, width, v, rfl⟩)).elim
  | rstLow => exact absurd rfl noReset
  | _ => cases hs; rfl

/-- Opening starts the settling of a closed gate and leaves another as it is (R214). -/
theorem openGate_eq (c : ClkGate) : openGate c = if c = .closed then .settling else c := by
  cases c <;> rfl

/-- The settle time passes only while the gate is open (R214). -/
theorem settleGate_eq (c : ClkGate) : settleGate c = if c = .closed then .closed else .settled := by
  cases c <;> rfl

/-- Settles O48. -/
theorem clockGateKeepsTheRegisters : Obligations.ClockGateKeepsTheRegisters := by
  intro s idle
  refine ⟨fun t hc noReset hstep => ?_, fun rest hh => ?_, fun rest hh => ?_, fun rest hh => ?_⟩
  · cases hh : s.host with
    | nil =>
      rw [step_waits idle hh] at hstep
      cases hstep
      rfl
    | cons next rest =>
      rw [step_served idle hh] at hstep
      have kept := serve_unsettled (s := { s with host := rest }) hc (by simpa [hh] using noReset) hstep
      rw [kept]
  · rw [step_served idle hh, serve]
  · rw [step_served idle hh, serve, openGate_eq]
  · rw [step_served idle hh, serve, settleGate_eq]

end Sys2Proof.Machine
end

section
/-! Proofs of spec/60_exceptions.md's family: a step that serves a write to CMD (R180, R185). -/

namespace Sys2Proof.Machine

/-- A step that serves a write to CMD executes the word and completes the write (R72, R180). -/
theorem step_command {s : State} {w : Word} {rest : List HostStep} (h : NextCommand s w rest) :
    step s = completeWrite (execute w { s with host := rest }) :=
  step_write (r := .cmd) h.1 h.2

/-- A faulted block completes a write to CMD and does nothing else (R185). -/
theorem step_command_faulted {s : State} {w : Word} {rest : List HostStep} (h : NextCommand s w rest)
    (hf : s.status.fault = true) : step s = .next { s with host := rest, replies := s.replies ++ [.done] } := by
  rw [step_command h, execute_ignored (s := { s with host := rest }) w hf]
  rfl

/-- Settles O38. -/
theorem stepRunsTheDecodedCommand : Obligations.StepRunsTheDecodedCommand := by
  intro w i rest s h hi
  rw [step_command h, execute_command hi]
  refine ⟨fun t hx => ?_, fun r hx => ?_, fun r hx => ?_⟩
  all_goals rw [hx]; rfl

/-- Settles O37: a command that runs leaves the replies as they were, so the write's completion is the only new one. -/
theorem commandWriteExecutes : Obligations.CommandWriteExecutes := by
  intro w rest s h
  refine ⟨step_command_faulted h, fun hf ⟨_, hill⟩ => ?_, fun i t _ hi hx => ?_⟩
  · rw [step_command h, execute_illegal (s := { s with host := rest }) hf hill]
    rfl
  · obtain ⟨-, -, -, -, -, -, replies, -⟩ := commandsKeepOperandsAndHost i _ t hx
    obtain ⟨runs, -⟩ := stepRunsTheDecodedCommand w i rest s h hi
    rw [runs t hx, replies]

/-- Every register but CMD is readable (R24, R63). -/
theorem State.readReg_readable (s : State) {r : Reg} (hr : r ≠ .cmd) : ∃ v, s.readReg r = some v := by
  cases r with
  | cmd => exact absurd rfl hr
  | _ => exact ⟨_, rfl⟩

/-- Settles O39: the window answers a faulted block's host as any other's, and only CMD is ignored. -/
theorem faultedBlockIgnoresCommands : Obligations.FaultedBlockIgnoresCommands := by
  intro rest s hb hf
  have ⟨idle, _⟩ := hb
  refine ⟨fun w hh => step_command_faulted ⟨hb, hh⟩ hf, fun v hh => step_write (r := .arg0) hb hh,
    fun v hh => step_write (r := .arg1) hb hh, fun r hr hh => ?_, fun t noReset hstep => ?_⟩
  · obtain ⟨v, hv⟩ := s.readReg_readable hr
    exact ⟨v, hv, step_read hb hh hv⟩
  · obtain ⟨status, fcmd, -⟩ := step_keepsFaultRecord idle hf hstep noReset
    exact ⟨status, fcmd⟩

end Sys2Proof.Machine
end

section
/-! Proofs of spec/70_reset_and_hazards.md's family: the reset pin (R210), and the nominal lengths of the commands as sums
over the events they add (R232). -/

namespace Sys2Proof.Machine

/-! ### The reset pin (R210) -/

/-- Every register the host reads is 0 at reset (R56). -/
theorem hostVisible_reset : hostVisible State.reset = List.replicate 7 (some 0#32) := by decide

/-- What a reset keeps of the state before it, the host does not read (R56). -/
theorem hostVisible_applyReset (s : State) (rstN : Bool) :
    hostVisible (s.applyReset rstN) = hostVisible State.reset := rfl

/-- Settles O52: a reset leaves CFG = 0, which leaves the lines undriven. -/
theorem resetRestoresEveryElement : Obligations.ResetRestoresEveryElement := by
  intro rest s idle
  refine ⟨fun hh => ?_, fun hh => by rw [step_served idle hh, serve]⟩
  have ⟨undriven, _⟩ := lineLevelsAtABoundary (({ s with host := rest } : State).applyReset false) rfl
  obtain ⟨select, clock, data⟩ := undriven rfl
  exact ⟨_, step_rstLow idle hh, rfl, rfl, (hostVisible_applyReset _ _).trans hostVisible_reset, rfl, rfl, rfl, rfl,
    select, clock, data, rfl, rfl⟩

/-! ### The lengths of lists of events (R232) -/

@[simp] theorem traceCycles_nil (p : Params) : traceCycles p [] = 0 := rfl

@[simp] theorem traceCycles_cons (p : Params) (e : WireEvent) (events : List WireEvent) :
    traceCycles p (e :: events) = eventCycles p e + traceCycles p events := List.sum_cons

@[simp] theorem traceCycles_append (p : Params) (before after : List WireEvent) :
    traceCycles p (before ++ after) = traceCycles p before + traceCycles p after := by
  simp [traceCycles]

/-- The frame of a WRBYTE lasts 8 DIV cycles, and its select changes with HWCS = 1 none (R124, R130). -/
@[simp] theorem traceCycles_frameEvents (p : Params) (s : State) (tx miso : Byte) :
    traceCycles p (frameEvents s tx miso) = 8 * s.div.toNat := by
  unfold frameEvents
  split <;> simp [eventCycles]

/-- Answered bytes last 8 DIV cycles each (R124). -/
theorem traceCycles_framesOf (p : Params) (s : State) {tx rx : List Byte} (hlen : rx.length = tx.length) :
    traceCycles p (framesOf s tx rx) = 8 * tx.length * s.div.toNat := by
  have each : ∀ n ∈ (framesOf s tx rx).map (eventCycles p), n = 8 * s.div.toNat := by
    intro n hn
    obtain ⟨e, he, rfl⟩ := List.mem_map.1 hn
    obtain ⟨i, hi, rfl⟩ := List.getElem_of_mem he
    simp [framesOf, eventCycles]
  rw [traceCycles, List.sum_eq_card_nsmul _ _ each]
  simp [framesOf, hlen, Nat.mul_left_comm, Nat.mul_assoc]

/-! ### The lengths of the commands (R232) -/

/-- The nominal length of a command that does not fault, in input-clock cycles (R232): a command without wire activity
adds none. -/
def nominalCycles (s : State) : Instr → Nat
  | .init _ _ => 0
  | .setbaud => 0
  | .setmode _ _ => 0
  | .wrbyte _ => 8 * s.div.toNat
  | .rdbyte => 0
  | .csassert => s.params.tCssCyc
  | .csdeassert => 0
  | .transactW _ _ _ => 2 * (s.params.tSettleUs * s.params.clkPerUs) + s.params.tCssCyc + 24 * s.div.toNat
  | .transactR _ _ => 2 * (s.params.tSettleUs * s.params.clkPerUs) + s.params.tCssCyc + 24 * s.div.toNat
  | .burst1 _ => s.params.tCssCyc + 8 * 1 * s.div.toNat
  | .burst2 _ _ => s.params.tCssCyc + 8 * 2 * s.div.toNat
  | .burst3 _ _ _ => s.params.tCssCyc + 8 * 3 * s.div.toNat
  | .delay us => us.toNat * s.params.clkPerUs

/-- `t`'s trace adds events to `s`'s, of this nominal length together. -/
def AddsCycles (s t : State) (n : Nat) : Prop :=
  ∃ events, t.trace = s.trace ++ events ∧ traceCycles s.params events = n

/-- A BURST lasts its setup wait and its frames (R145, R232). -/
theorem State.burst_addsCycles {s : State} (bytes : List Byte) (hsoft : s.config.hwcs = false) :
    AddsCycles s (s.burst bytes) (s.params.tCssCyc + 8 * bytes.length * s.div.toNat) := by
  refine ⟨[.csFall, .wait .css s.params.tCssCyc] ++ framesOf s bytes (s.selOn.answers bytes) ++ [.csRise], ?_, ?_⟩
  · simp [State.burst_trace bytes hsoft]
  · simp [traceCycles_framesOf, eventCycles]

/-- A TRANSACT lasts its two settle waits, its setup wait and its three frames (R160, R232). -/
theorem IsTransact.effectOf_addsCycles {i : Instr} (hi : IsTransact i) {s : State} (hsoft : s.config.hwcs = false) :
    AddsCycles s (effectOf i s)
      (2 * (s.params.tSettleUs * s.params.clkPerUs) + s.params.tCssCyc + 24 * s.div.toNat) := by
  refine ⟨[.wait .settle s.params.tSettleUs, .csFall, .wait .css s.params.tCssCyc] ++
    framesOf s (bytesSent i) (s.settle.selOn.answers (bytesSent i)) ++
    [.csRise, .wait .settle s.params.tSettleUs], ?_, ?_⟩
  · simp [hi.effectOf_trace hsoft]
  · have three : (bytesSent i).length = 3 := by
      obtain ⟨opc, reg, data, rfl⟩ | ⟨opc, reg, rfl⟩ := hi <;> rfl
    simp only [traceCycles_append, traceCycles_cons, traceCycles_nil, traceCycles_framesOf _ _ (State.length_answers _ _),
      three, eventCycles]
    omega

/-- A command that passes its checks adds events of its nominal length (R232). -/
theorem effectOf_addsCycles {i : Instr} {s : State} (hpass : firstFault (checksOf i) s = none) :
    AddsCycles s (effectOf i s) (nominalCycles s i) := by
  have soft (own : hasOwnBracket i = true) : s.config.hwcs = false :=
    (transferChecks_select (checksOf_of_hasOwnBracket own ▸ hpass)).1
  cases i with
  | wrbyte data => exact ⟨_, s.shiftByte_trace data, traceCycles_frameEvents _ s data _⟩
  | csassert =>
    exact ⟨[.csFall, .wait .css s.params.tCssCyc], by simp [effectOf], by simp [eventCycles, nominalCycles]⟩
  | csdeassert => exact ⟨[.csRise], rfl, rfl⟩
  | transactW opc reg data => exact IsTransact.effectOf_addsCycles (.inl ⟨opc, reg, data, rfl⟩) (soft rfl)
  | transactR opc reg => exact IsTransact.effectOf_addsCycles (.inr ⟨opc, reg, rfl⟩) (soft rfl)
  | burst1 b0 => exact State.burst_addsCycles [b0] (soft rfl)
  | burst2 b0 b1 => exact State.burst_addsCycles [b0, b1] (soft rfl)
  | burst3 b0 b1 b2 => exact State.burst_addsCycles [b0, b1, b2] (soft rfl)
  | delay us => exact ⟨[.wait .host us.toNat], rfl, by simp [eventCycles, nominalCycles]⟩
  | _ => exact ⟨[], (List.append_nil s.trace).symm, rfl⟩

/-- Settles O60: each clause is a row of `nominalCycles`. -/
theorem nominalDurations : Obligations.NominalDurations := by
  intro i s t hf hexec ht
  obtain ⟨hpass, rfl⟩ := exec_passed hf hexec ht
  obtain ⟨events, trace, cycles⟩ := effectOf_addsCycles hpass
  refine ⟨events, trace, ?_, ?_, ?_, ?_, ?_, ?_⟩
  · rintro (⟨opc, reg, data, rfl⟩ | ⟨opc, reg, rfl⟩) <;> exact cycles
  · rintro ⟨b0, rfl⟩
    exact cycles
  · rintro ⟨b0, b1, rfl⟩
    exact cycles
  · rintro ⟨b0, b1, b2, rfl⟩
    exact cycles
  · rintro ⟨data, rfl⟩
    exact cycles
  · rintro us rfl
    exact cycles

end Sys2Proof.Machine
end

section
/-! Proofs for the bit level of a frame (spec/41_spi_transfer.md R121 to R123): the two edges of each bit in either clock
phase, and from them the sixteen edges of the frame. -/

namespace Sys2Proof.Machine

/-! ### The edges a frame should have -/

/-- The two edges of bit `k` (R121, R122): with CPHA = 0 both lines are sampled at the leading one, with
CPHA = 1 at the trailing one. -/
def edgesOfBit (tx miso : Byte) (cpol cpha : Bool) (k : Nat) : List SckEdge :=
  if cpha then
    [{ level := !cpol, sampled := none, driven := some (tx.getLsbD k) },
     { level := cpol, sampled := some (some (tx.getLsbD k), miso.getLsbD k), driven := none }]
  else
    [{ level := !cpol, sampled := some (some (tx.getLsbD k), miso.getLsbD k), driven := none },
     { level := cpol, sampled := none, driven := if k = 0 then none else some (tx.getLsbD (k - 1)) }]

/-- The edges of the bits from `k` down to 0, most significant bit first. -/
def edgesFrom (tx miso : Byte) (cpol cpha : Bool) : Nat → List SckEdge
  | 0 => edgesOfBit tx miso cpol cpha 0
  | k + 1 => edgesOfBit tx miso cpol cpha (k + 1) ++ edgesFrom tx miso cpol cpha k

@[simp] theorem length_edgesOfBit (tx miso : Byte) (cpol cpha : Bool) (k : Nat) :
    (edgesOfBit tx miso cpol cpha k).length = 2 := by
  cases cpha <;> rfl

@[simp] theorem length_edgesFrom (tx miso : Byte) (cpol cpha : Bool) (k : Nat) :
    (edgesFrom tx miso cpol cpha k).length = 2 * (k + 1) := by
  induction k with
  | zero => rw [edgesFrom, length_edgesOfBit]
  | succ k ih =>
    rw [edgesFrom, List.length_append, length_edgesOfBit, ih]
    omega

/-- The bits go out in order: the `i`-th pair of edges is that of bit `k - i`. -/
theorem edgesFrom_getElem? (tx miso : Byte) (cpol cpha : Bool) {i j k : Nat} (hi : i ≤ k) (hj : j < 2) :
    (edgesFrom tx miso cpol cpha k)[2 * i + j]? = (edgesOfBit tx miso cpol cpha (k - i))[j]? := by
  induction k generalizing i with
  | zero =>
    obtain rfl : i = 0 := by omega
    rw [edgesFrom, Nat.mul_zero, Nat.zero_add]
  | succ k ih =>
    rw [edgesFrom]
    cases i with
    | zero =>
      rw [Nat.mul_zero, Nat.zero_add, List.getElem?_append_left (by simpa using hj), Nat.sub_zero]
    | succ i =>
      rw [List.getElem?_append_right (by rw [length_edgesOfBit]; omega), length_edgesOfBit,
        show 2 * (i + 1) + j - 2 = 2 * i + j by omega, ih (by omega), Nat.add_sub_add_right]

/-! ### The edges the shifter makes -/

/-- With CPHA = 0, bit `k` is on MOSI before its leading edge; with CPHA = 1 that edge drives it (R121, R122). -/
def Shifting.Presents (sh : Shifting) (cpha : Bool) (k : Nat) : Prop :=
  cpha = false → sh.mosi = some (sh.tx.getLsbD k)

theorem shiftingStart_presents (tx miso : Byte) (cpol cpha : Bool) :
    (shiftingStart tx miso cpol cpha).Presents cpha 7 := by
  rintro rfl
  rfl

/-- With CPHA = 0 the trailing edge of a bit puts the next one on MOSI (R121). -/
theorem Shifting.edges_presents (sh : Shifting) (cpol cpha : Bool) (k : Nat) :
    ((sh.leadEdge cpol cpha (k + 1)).trailEdge cpol cpha (k + 1)).Presents cpha k := by
  rintro rfl
  rfl

@[simp] theorem Shifting.edges_sck (sh : Shifting) (cpol cpha : Bool) (k : Nat) :
    ((sh.leadEdge cpol cpha k).trailEdge cpol cpha k).sck = cpol := by
  cases cpha <;> rfl

/-- The two edges of bit `k` follow those made before it (R121, R122). -/
theorem Shifting.edges_edges {sh : Shifting} {cpha : Bool} {k : Nat} (cpol : Bool) (hk : sh.Presents cpha k) :
    ((sh.leadEdge cpol cpha k).trailEdge cpol cpha k).edges =
      sh.edges ++ edgesOfBit sh.tx sh.miso cpol cpha k := by
  cases cpha with
  | false =>
    simp [Shifting.leadEdge, Shifting.trailEdge, Shifting.sampleBit, Shifting.driveBit, edgesOfBit, hk rfl]
  | true =>
    simp [Shifting.leadEdge, Shifting.trailEdge, Shifting.sampleBit, Shifting.driveBit, edgesOfBit]

theorem Shifting.bitsFrom_edges (cpol cpha : Bool) (k : Nat) {sh : Shifting} (hk : sh.Presents cpha k) :
    (sh.bitsFrom cpol cpha k).edges = sh.edges ++ edgesFrom sh.tx sh.miso cpol cpha k := by
  induction k generalizing sh with
  | zero => exact Shifting.edges_edges cpol hk
  | succ k ih =>
    rw [Shifting.bitsFrom, ih (Shifting.edges_presents sh cpol cpha k), Shifting.edges_edges cpol hk,
      Shifting.edges_tx, Shifting.edges_miso, edgesFrom, List.append_assoc]

@[simp] theorem Shifting.bitsFrom_sck (sh : Shifting) (cpol cpha : Bool) (k : Nat) :
    (sh.bitsFrom cpol cpha k).sck = cpol := by
  induction k generalizing sh with
  | zero => exact sh.edges_sck cpol cpha 0
  | succ k ih => exact ih _

/-! ### The whole frame -/

/-- A frame makes the edges of bits 7 down to 0 (R121, R122). -/
@[simp] theorem frameBits_edges (tx miso : Byte) (cpol cpha : Bool) :
    (frameBits tx miso cpol cpha).edges = edgesFrom tx miso cpol cpha 7 :=
  Shifting.bitsFrom_edges cpol cpha 7 (shiftingStart_presents tx miso cpol cpha)

@[simp] theorem frameBits_sck (tx miso : Byte) (cpol cpha : Bool) : (frameBits tx miso cpol cpha).sck = cpol :=
  Shifting.bitsFrom_sck _ cpol cpha 7

theorem length_frameBits_edges (tx miso : Byte) (cpol cpha : Bool) :
    (frameBits tx miso cpol cpha).edges.length = 16 := by
  rw [frameBits_edges, length_edgesFrom]

/-- Edge `2 * i + j` of a frame is edge `j` of bit `7 - i` (R121, R122). -/
theorem frameBits_edges_getElem? (tx miso : Byte) (cpol cpha : Bool) {i j : Nat} (hi : i < 8) (hj : j < 2) :
    (frameBits tx miso cpol cpha).edges[2 * i + j]? = (edgesOfBit tx miso cpol cpha (7 - i))[j]? := by
  rw [frameBits_edges, edgesFrom_getElem? _ _ _ _ (by omega) hj]

/-- Settles O20: with CPHA = 0 the trailing edge of bit `7 - i` drives the bit below it, of which bit 0 has none. -/
theorem frameEdgesCapturingOnLeadingEdge : Obligations.FrameEdgesCapturingOnLeadingEdge := by
  intro tx miso cpol
  refine ⟨rfl, rfl, length_frameBits_edges tx miso cpol false, fun i hi => ⟨?_, ?_⟩, frameBits_sck tx miso cpol false,
    frameBits_rx tx miso cpol false⟩
  · exact frameBits_edges_getElem? tx miso cpol false (j := 0) hi (by omega)
  · rw [frameBits_edges_getElem? tx miso cpol false hi (by omega)]
    simp [edgesOfBit, show 7 - i = 0 ↔ i = 7 by omega, show 7 - i - 1 = 6 - i by omega]

/-- Settles O21: with CPHA = 1 the leading edge of bit `7 - i` drives it and the trailing edge samples it. -/
theorem frameEdgesCapturingOnTrailingEdge : Obligations.FrameEdgesCapturingOnTrailingEdge := by
  intro tx miso cpol
  refine ⟨rfl, length_frameBits_edges tx miso cpol true, fun i hi => ⟨?_, ?_⟩, frameBits_sck tx miso cpol true,
    frameBits_rx tx miso cpol true⟩
  · exact frameBits_edges_getElem? tx miso cpol true (j := 0) hi (by omega)
  · exact frameBits_edges_getElem? tx miso cpol true (j := 1) hi (by omega)

end Sys2Proof.Machine
end

section
/-! Proofs for pin changes in the middle of a command (spec/70_reset_and_hazards.md R211, R234). -/

namespace Sys2Proof.Machine

/-- With a pin change next, a step in the middle of a command is stuck (R211, R234, log 10). -/
theorem step_pinChange {h : HostStep} {rest : List HostStep} {s : State} (hi : s.fsm ≠ .idle) (hh : s.host = h :: rest)
    (hp : isPinChange h = true) : step s = .fault .pinChangeMidCommand := by
  simp [step, tick, hi, midCommandStep, hh, hp]

/-- Settles O50: the four host steps named are the pin changes. -/
theorem pinChangeInsideACommandIsStuck : Obligations.PinChangeInsideACommandIsStuck := by
  intro h rest s hi hh hmove
  have pinChange : isPinChange h = true := by
    obtain rfl | rfl | rfl | rfl := hmove <;> rfl
  exact step_pinChange hi hh pinChange

end Sys2Proof.Machine
end
